-- ==== Sys2Proof/Word.lean ====
section
/-!
DEFINITION. The word and number types of the LP-2160 and the packets of its links.
A register field that software reads or writes is a `BitVec` of its width; a count of things
(requests, entries, credits) is a `Nat` that a law of the spec bounds.
-/

namespace Sys2Proof

/-- A pacer number, 0..127 (R1). -/
abbrev PacerId := Fin 128

/-- An outstanding entry number, 0..127 (R94). -/
abbrev EntryId := Fin 128

/-- The 10-bit identifier of an initiator stream (Terms, "Tag"). -/
abbrev Tag := BitVec 10

/-- The 8-bit transaction identifier of a packet (Terms, "TXID"). -/
abbrev Txid := BitVec 8

/-- One data beat of 32 bytes; byte 0 is bits 7:0 (chapter 12). -/
abbrev Beat := BitVec 256

/-- One 8-byte word of the management window (R141). -/
abbrev MgmtWord := BitVec 64

/-- A pacing time, the 64-bit wrapping count of pacing ticks (R44). -/
abbrev PacingTime := BitVec 64

/-- A device time in microseconds (R95). -/
abbrev DeviceTime := Nat

/-- The two link ports (chapter 10). -/
inductive PortId where
  | i
  | t
  deriving DecidableEq, Repr

/-- The nine packet kinds of section 12.1. -/
inductive PacketKind where
  | read | write | writeP | readData | writeDone | init | credit | reset | alert
  deriving DecidableEq, Repr

/-- The 128 header bits of a packet, field by field (section 12.1). Every bit has a field, the unused
ones too, because a forwarded request or response keeps them (R174). -/
structure Header where
  kind : BitVec 4
  cls : BitVec 2
  pressure : BitVec 2
  beatsM1 : BitVec 4
  status : BitVec 5
  tag : Tag
  txid : Txid
  detail : BitVec 8
  unusedLow : BitVec 21
  address : BitVec 48
  unusedHigh : BitVec 16
  deriving DecidableEq, Repr

/-- A packet as the blocks hold it: its header and its data beats. Its check word is added at its sending (R174). -/
structure Packet where
  header : Header
  data : List Beat
  deriving DecidableEq, Repr

/-- The 4-byte check word of a packet on a link (section 12.1). -/
abbrev CheckWord := BitVec 32

/-- A packet on a link: the packet and the check word it carries (section 12.1). -/
structure WirePacket where
  packet : Packet
  check : CheckWord
  deriving DecidableEq, Repr

end Sys2Proof
end

