-- ==== Sys2Proof/Config.lean ====
section
/-!
DEFINITION. What an implementation of the LP-2160 fixes: the sizes of its stores, its power-on settings, and the two
values the spec leaves open.
-/

namespace Sys2Proof.Config

/-- Request slots of the Hold Buffer (R62). -/
def holdSlots : Nat := 256

/-- Entries of the Management Queue (R142). -/
def mgmtEntries : Nat := 4

/-- Entries of the Response Buffer that may hold target responses (R114). -/
def targetShare : Nat := 24

/-- Entries of the Response Buffer that may hold bridge-made responses (R114). -/
def bridgeShare : Nat := 8

/-- Records of the Notice Queue (R128). -/
def noticeRecords : Nat := 32

/-- Microseconds from one INIT to the next resend (R160, R161). -/
def resendMicros : Nat := 1000

/-- The largest count one CREDIT packet carries (R165). -/
def creditPacketMax : Nat := 255

/-- Power-on value of TICK_LEN (R45). -/
def tickLenReset : BitVec 16 := 25

/-- Power-on value of RESP_TIMEOUT, in microseconds (R151). -/
def respTimeoutReset : BitVec 16 := 1000

/-- The 4 ns units of the reference clock in one microsecond; TICK_LEN counts the same units (R45). -/
def unitsPerMicro : Nat := 250

/-- Part code of the identity word (R151). -/
def partCode : BitVec 16 := 0x2160

/-- Revision code of the identity word (R151). -/
def revisionCode : BitVec 8 := 0x01

/-- FREE VALUE. The rank that orders the pacers whose drains complete in one link-reset event when they join the sweep
queue: the spec gives each one's joining (R15, R72, R106) and no order among them. The first argument
is a draw number, the second the pacer. Nothing is known of it; notes/assumptions/8.md. -/
opaque drainRank : Nat → PacerId → Nat

/-- FREE VALUE. The 32-bit cyclic code over the header bits and the data beats of a packet (section 12.1). The spec does not give
its polynomial, so nothing is known of it but what it is computed from; notes/assumptions/7.md. -/
opaque checkWord : BitVec 128 → List Beat → CheckWord

end Sys2Proof.Config
end

