-- ==== Sys2Proof/Syntax.lean ====
section
/-!
DEFINITION. The commands of the LP-2160: one constructor for each row of spec/opcode_table.json, with the row's
operands. A management row's command is the management request of that form arriving on Link port I
(notes/assumptions/6.md); a row of the bridge's own (a departure, an expiry) is that event coming to be taken.
-/

namespace Sys2Proof

/-- Who sends a management request: its tag and its upstream TXID. -/
structure Sender where
  tag : Tag
  txid : Txid
  deriving DecidableEq, Repr

/-- The three kinds of credit the bridge returns (R165): traffic and management on Link port I, response on Link
port T. -/
inductive CreditReturn where
  | traffic
  | mgmt
  | response
  deriving DecidableEq, Repr

/-- The commands, in the table's order. -/
inductive Instr where
  /-- POWER_ON_RESET (R160): release of RESET_N with these strap levels. -/
  | powerOnReset (wbase : BitVec 4) (pmtag : Tag)
  /-- PACING_TICK (R44). -/
  | pacingTick
  /-- TRAFFIC_ARRIVAL (R83): this request, sound, arrives on Link port I. -/
  | trafficArrival (pkt : Packet)
  /-- MGMT_ARRIVAL (R142): this request, sound, arrives on Link port I. -/
  | mgmtArrival (pkt : Packet)
  /-- TARGET_RESPONSE (R97): this response, sound, arrives on Link port T. -/
  | targetResponse (pkt : Packet)
  /-- INIT_ARRIVAL (R162): the partner's INIT with these grants. -/
  | initArrival (port : PortId) (trafficGrant : BitVec 9) (mgmtGrant : BitVec 3) (respGrant reqGrant : BitVec 8)
  /-- CREDIT_ARRIVAL (R164): a CREDIT of this class code and count. -/
  | creditArrival (port : PortId) (creditClass : BitVec 2) (count : BitVec 8)
  /-- RESET_ARRIVAL (R169): a sound RESET. -/
  | resetArrival (port : PortId)
  /-- FAULT (R167): any packet off the lane, as bits: its header, its data and the check word it carries. -/
  | fault (port : PortId) (header : BitVec 128) (data : List Beat) (check : CheckWord)
  /-- FAULT_RESET_SENT (R168). -/
  | faultResetSent (port : PortId)
  /-- INIT_RESEND (R161). -/
  | initResend (port : PortId)
  /-- CREDIT_SEND (R165). -/
  | creditSend (which : CreditReturn)
  /-- DEPARTURE (R54). -/
  | departure
  /-- EXPIRY (R103) of this outstanding entry. -/
  | expiry (n : EntryId)
  /-- QUARANTINE_END (R105) of this outstanding entry. -/
  | quarantineEnd (n : EntryId)
  /-- SWEEP_DEFAULT_PACER_STEP (R89). -/
  | sweepDefaultPacerStep
  /-- SWEEP_ENTRY_VISIT (R89). -/
  | sweepEntryVisit
  /-- REPLY_PLACEMENT (R119). -/
  | replyPlacement
  /-- RESPONSE_SEND (R116). -/
  | responseSend
  /-- CMD_STAGE (R7): the command word written with STAGE, this pacer field and operand. -/
  | cmdStage (src : Sender) (pacer : BitVec 8) (operand : BitVec 16)
  /-- CMD_START (R8). -/
  | cmdStart (src : Sender) (pacer : BitVec 8) (operand : BitVec 16)
  /-- CMD_PAUSE (R9). -/
  | cmdPause (src : Sender) (pacer : BitVec 8) (operand : BitVec 16)
  /-- CMD_RESUME (R10). -/
  | cmdResume (src : Sender) (pacer : BitVec 8) (operand : BitVec 16)
  /-- CMD_RETIRE_FLUSH (R12). -/
  | cmdRetireFlush (src : Sender) (pacer : BitVec 8) (operand : BitVec 16)
  /-- CMD_RETIRE_DISCARD (R12, R13). -/
  | cmdRetireDiscard (src : Sender) (pacer : BitVec 8) (operand : BitVec 16)
  /-- CMD_SET_SPACING (R11). -/
  | cmdSetSpacing (src : Sender) (pacer : BitVec 8) (operand : BitVec 16)
  /-- CMD_REARM_ALERT (R137). -/
  | cmdRearmAlert (src : Sender) (pacer : BitVec 8) (operand : BitVec 16)
  /-- BAD_COMMAND (R154): the command word written with this code, none of the eight. -/
  | badCommand (src : Sender) (code pacer : BitVec 8) (operand : BitVec 16)
  /-- NOTICE_POP (R134). -/
  | noticePop (src : Sender)
  /-- NOTICE_PEEK (R135). -/
  | noticePeek (src : Sender)
  /-- TICK_LEN_WRITE (R45). -/
  | tickLenWrite (src : Sender) (value : MgmtWord)
  /-- DEFAULT_PACER_WRITE (R79). -/
  | defaultPacerWrite (src : Sender) (value : MgmtWord)
  /-- TAG_MAP_WRITE (R78) of the entry of tag `t`. -/
  | tagMapWrite (src : Sender) (t : Tag) (value : MgmtWord)
  /-- MANAGER_LIST_WRITE (R147) of entry `e`. -/
  | managerListWrite (src : Sender) (e : Fin 4) (value : MgmtWord)
  /-- ENABLES_WRITE (R152). -/
  | enablesWrite (src : Sender) (value : MgmtWord)
  /-- COUNTER_CLEAR (R153) of the counter at place `c` of the order of section 12.3. -/
  | counterClear (src : Sender) (c : Fin 16) (value : MgmtWord)
  /-- CONFIGURATION_WRITE (R17) of pacer `p`'s configuration word `w`, +0x00 to +0x30. -/
  | configurationWrite (src : Sender) (p : PacerId) (w : Fin 7) (value : MgmtWord)
  /-- MGMT_WRITE (R150): a management WRITE with any address and data. -/
  | mgmtWrite (pkt : Packet)
  /-- MGMT_WRITE_P (R144): a management posted write. -/
  | mgmtWriteP (pkt : Packet)
  deriving DecidableEq, Repr

end Sys2Proof
end

