-- ==== Sys2Proof/Decode.lean ====
section
/-!
DEFINITION. The command that a word spells by the bits of spec/opcode_table.json.
-/

namespace Sys2Proof

/-- No row of the table gives bits ("fields" is empty in every one and none has "fixed"), so no word spells a command. The
bits the spec does give, of packet headers and window words, are read in Machine/Operands.lean. -/
def decodeTableWord (_nbits _w : Nat) : Option Instr := none

end Sys2Proof
end

