-- ==== Sys2Proof/Machine/State.lean ====
section
/-!
DEFINITION. The state of the LP-2160, block by block as the table of 00_scope.md lists them, and the state after
reset. Plain data throughout.
-/

namespace Sys2Proof.Machine

/-- The six states of a pacer (section 1.2). -/
inductive PacerState where
  | vacant | staged | live | paused | draining | sweeping
  deriving DecidableEq, Repr

/-- How the queue of a draining pacer is disposed of (R2). -/
inductive RetireMode where
  | flush | discard
  deriving DecidableEq, Repr

/-- The configuration half of a pacer context (R1), each field of the width of its word (section 12.3.1). -/
structure PacerConfig where
  spaceMin : BitVec 16
  spaceMax : BitVec 16
  spaceStart : BitVec 16
  upShift : BitVec 4
  downShift : BitVec 4
  window : BitVec 8
  markLimit : BitVec 8
  slowAt : BitVec 16
  slowBand : BitVec 16
  idleLimit : BitVec 16
  drainSpace : BitVec 16
  priority : BitVec 2
  flightCap : BitVec 8
  queueLimit : BitVec 9
  deriving DecidableEq, Repr

/-- A pacer context (R1, R2). -/
structure Pacer where
  cfg : PacerConfig
  state : PacerState
  retireMode : Option RetireMode
  spacing : BitVec 16
  due : PacingTime
  lastDepart : PacingTime
  flight : Nat
  qlen : Nat
  winCount : Nat
  winMarks : Nat
  demand : Bool
  slow : Bool
  crossPending : Bool
  departCount : BitVec 32
  beatCount : BitVec 32
  refuseCount : BitVec 32
  deriving DecidableEq, Repr

/-- A hold slot that stands in a pacer's queue: the request in full, and the ABORTING mark (R62). -/
structure HoldSlot where
  request : Packet
  aborting : Bool
  deriving DecidableEq, Repr

/-- The states of an outstanding entry (R94). -/
inductive EntryState where
  | free | busy | closing | quarantine
  deriving DecidableEq, Repr

/-- KIND of an outstanding entry (R94). -/
inductive EntryKind where
  | read | write
  deriving DecidableEq, Repr

/-- Why an outstanding entry was given up on (R94). -/
inductive CloseCause where
  | timeout | linkLost
  deriving DecidableEq, Repr

/-- An outstanding entry (R94). -/
structure Entry where
  state : EntryState
  pacer : PacerId
  tag : Tag
  upTxid : Txid
  kind : EntryKind
  beats : Nat
  deadline : Option DeviceTime
  orphan : Bool
  closeCause : Option CloseCause
  quarantineOnClose : Bool
  quarantineEnd : Option DeviceTime
  deriving DecidableEq, Repr

/-- Where a Response Buffer entry came from (R113). -/
inductive Origin where
  | target | bridge
  deriving DecidableEq, Repr

/-- A Response Buffer entry: one response packet, ready to send, and its ORIGIN (R113). -/
structure BufferedResponse where
  packet : Packet
  origin : Origin
  deriving DecidableEq, Repr

/-- The cause of a refusal, in the order of the checks of R83. -/
inductive RefusalCause where
  | malformed | window | unmapped | retiring | retry
  deriving DecidableEq, Repr

/-- A Reply List item with the one resource it holds (R118). A refusal item holds its slot, so the refusal-pending set
is the slots of the refusal items (R66; notes/assumptions/10.md). -/
inductive ReplyItem where
  /-- A refusal: the request in its slot, the cause, and the pacer for RETIRING and RETRY. -/
  | refusal (request : Packet) (cause : RefusalCause) (pacer : Option PacerId)
  /-- The ABORTED answer of the head request of this pacer's queue. -/
  | aborted (pacer : PacerId)
  /-- The TIMEOUT or LINK_LOST answer of this CLOSING entry. -/
  | givenUp (cause : CloseCause) (entry : EntryId)
  /-- The answer of the taken management request: status, detail byte and the beat a READ returns. -/
  | mgmt (status : BitVec 5) (detail : BitVec 8) (beat : Beat)
  deriving DecidableEq, Repr

/-- A notice, with the fields its kind carries (R128). -/
inductive NoticeBody where
  | slow (p : PacerId) (spacing : BitVec 16)
  | recovered (p : PacerId) (spacing : BitVec 16)
  | retireDone (p : PacerId)
  | respTimeout (p : PacerId) (tag : Tag) (txid : Txid)
  | mismatch (p : PacerId) (tag : Tag)
  | denied (tag : Tag)
  | linkReset (port : PortId)
  deriving DecidableEq, Repr

/-- A notice record: the notice and its STAMP (R128). -/
structure Notice where
  body : NoticeBody
  stamp : BitVec 32
  deriving DecidableEq, Repr

/-- The Notice Queue: its records oldest first, OVERFLOW, and the alert flags it keeps (R128, R136). ALERT_ENABLE is a
bit of the enables word. -/
structure NoticeQueue where
  records : List Notice
  overflow : Bool
  alertArmed : Bool
  alertPending : Bool
  deriving DecidableEq, Repr

/-- The state of a link port (R159). -/
inductive LinkState where
  | down | initWait | up | fault
  deriving DecidableEq, Repr

/-- What both ports hold alike: the link state, the resend timer (R159), and the packets handed to the port and not yet
sent, oldest first (R166, R170). -/
structure Link where
  state : LinkState
  resend : Option DeviceTime
  lane : List WirePacket
  deriving DecidableEq, Repr

/-- The credit counts of Link port I (R159). -/
structure CreditsI where
  givenTraffic : Nat
  givenMgmt : Nat
  returnTraffic : Nat
  returnMgmt : Nat
  heldResp : Nat
  grantResp : Nat
  deriving DecidableEq, Repr

/-- The credit counts of Link port T (R159). -/
structure CreditsT where
  givenResp : Nat
  returnResp : Nat
  heldReq : Nat
  grantReq : Nat
  deriving DecidableEq, Repr

/-- A manager list entry (R147). -/
structure ManagerEntry where
  valid : Bool
  tag : Tag
  deriving DecidableEq, Repr

/-- The last-command record (R155). -/
structure LastCommand where
  valid : Bool
  code : BitVec 8
  pacer : BitVec 8
  operand : BitVec 16
  outcome : BitVec 8
  deriving DecidableEq, Repr

/-- The two states of the Management Agent (R143). While ANSWERING, the head of the Management Queue is the taken
request. -/
inductive AgentState where
  | ready | answering
  deriving DecidableEq, Repr

/-- What the Management Agent holds: its state, the global settings, the manager list, the counters and the last
command (R143, R156). -/
structure Agent where
  state : AgentState
  tickLen : BitVec 16
  respTimeout : BitVec 16
  /-- The enables word: bits 0..6 the notice enables, bit 7 ALERT_ENABLE (R152). -/
  enables : BitVec 8
  managers : Vector ManagerEntry 4
  counters : Vector (BitVec 32) 16
  lastCommand : LastCommand
  deriving DecidableEq, Repr

/-- The sweep cursor (R88). -/
inductive SweepCursor where
  | idle
  | defaultStep (p : PacerId)
  | visit (p : PacerId) (k : Tag)
  deriving DecidableEq, Repr

/-- The Sweeper (R88). -/
structure Sweeper where
  queue : List PacerId
  cursor : SweepCursor
  deriving DecidableEq, Repr

/-- The two time bases, both derived from the reference clock in units of 4 ns. `unitsPast` is the units since the last whole
microsecond (R95). `tickSpan` is the length of the pacing tick in progress, which a TICK_LEN write does not change, and `tickPast`
the units of it that have passed (R44, R45). -/
structure Clock where
  pacingTime : PacingTime
  deviceTime : DeviceTime
  unitsPast : Nat
  tickSpan : Nat
  tickPast : Nat
  deriving DecidableEq, Repr

/-- The reset pin and the straps as last sampled (00_scope.md, "Pins and straps"). -/
structure Pins where
  resetN : Bool
  wbase : BitVec 4
  pmtag : Tag
  deriving DecidableEq, Repr

/-- The whole state of the LP-2160, and the queue of commands that wait. -/
structure State where
  pins : Pins
  clock : Clock
  linkI : Link
  creditsI : CreditsI
  linkT : Link
  creditsT : CreditsT
  tagMap : Vector (Option PacerId) 1024
  defaultPacer : Option PacerId
  queues : Vector (List HoldSlot) 128
  pacers : Vector Pacer 128
  /-- The pacers on the departure calendar, in increasing number; each one's key is its DUE (R46). -/
  calendar : List PacerId
  outstanding : Vector Entry 128
  responses : List BufferedResponse
  replies : List ReplyItem
  notices : NoticeQueue
  mgmtQueue : List Packet
  agent : Agent
  sweeper : Sweeper
  /-- THE MODEL'S OWN: how many free orders have been drawn (Config.drainRank). -/
  draws : Nat
  /-- The commands that wait, first in, first out. -/
  pending : List Instr
  deriving DecidableEq, Repr

/-- The reasons the machine stops with a fault. There is none: the spec gives every command an effect in every state, and
its own link faults are next states (R168). -/
inductive Fault where
  deriving DecidableEq, Repr

/-- The reasons a command has no meaning. -/
inductive Refusal where
  /-- Raised by an arm of exec whose command is not modelled yet; safe, since the machine stops. -/
  | notModelled (mnemonic : String)
  deriving DecidableEq, Repr

/-- A configuration at power-on: every field 0 (R1). -/
def powerOnConfig : PacerConfig :=
  { spaceMin := 0, spaceMax := 0, spaceStart := 0, upShift := 0, downShift := 0, window := 0, markLimit := 0,
    slowAt := 0, slowBand := 0, idleLimit := 0, drainSpace := 0, priority := 0, flightCap := 0, queueLimit := 0 }

/-- A pacer context at power-on (R1, R2). -/
def powerOnPacer : Pacer :=
  { cfg := powerOnConfig, state := .vacant, retireMode := none, spacing := 0, due := 0, lastDepart := 0,
    flight := 0, qlen := 0, winCount := 0, winMarks := 0, demand := false, slow := false, crossPending := false,
    departCount := 0, beatCount := 0, refuseCount := 0 }

/-- An outstanding entry at power-on (R94). -/
def powerOnEntry : Entry :=
  { state := .free, pacer := 0, tag := 0, upTxid := 0, kind := .read, beats := 0, deadline := none,
    orphan := false, closeCause := none, quarantineOnClose := false, quarantineEnd := none }

/-- The agent at power-on with this primary-manager tag (R156). -/
def powerOnAgent (pmtag : Tag) : Agent :=
  { state := .ready, tickLen := Config.tickLenReset, respTimeout := Config.respTimeoutReset, enables := 0xFF,
    managers := #v[⟨true, pmtag⟩, ⟨false, 0⟩, ⟨false, 0⟩, ⟨false, 0⟩],
    counters := Vector.replicate 16 0,
    lastCommand := { valid := false, code := 0, pacer := 0, operand := 0, outcome := 0 } }

/-- Every block at its power-on value, with these strap levels sampled: the ports DOWN, their counts 0 and their timers
idle (R159), everything else as R2, R44, R62, R76, R77, R88, R94, R113, R118, R128, R136 and R156 give. -/
def powerOn (resetN : Bool) (wbase : BitVec 4) (pmtag : Tag) : State :=
  { pins := { resetN, wbase, pmtag },
    clock := { pacingTime := 0, deviceTime := 0, unitsPast := 0, tickSpan := Config.tickLenReset.toNat, tickPast := 0 },
    linkI := { state := .down, resend := none, lane := [] },
    creditsI := { givenTraffic := 0, givenMgmt := 0, returnTraffic := 0, returnMgmt := 0, heldResp := 0, grantResp := 0 },
    linkT := { state := .down, resend := none, lane := [] },
    creditsT := { givenResp := 0, returnResp := 0, heldReq := 0, grantReq := 0 },
    tagMap := Vector.replicate 1024 none,
    defaultPacer := none,
    queues := Vector.replicate 128 [],
    pacers := Vector.replicate 128 powerOnPacer,
    calendar := [],
    outstanding := Vector.replicate 128 powerOnEntry,
    responses := [],
    replies := [],
    notices := { records := [], overflow := false, alertArmed := true, alertPending := false },
    mgmtQueue := [],
    agent := powerOnAgent pmtag,
    sweeper := { queue := [], cursor := .idle },
    draws := 0,
    pending := [] }

/-- The state after reset: the part while RESET_N is held low (R159), before any strap has been sampled. The two sampled
strap fields, and with them the TAG of manager entry 0, hold 0 until then (notes/assumptions/1.md). -/
def State.reset : State := powerOn false 0 0

end Sys2Proof.Machine
end

