-- ==== Sys2Proof/Machine/Operands.lean ====
section
/-!
DEFINITION. The operand forms: the bits of a packet header (section 12.1), the packets that commands stand for and the
bridge composes (R121, R174), the codes (section 12.2) and the words of the management window (section 12.3).
-/

namespace Sys2Proof

/-! ### Packet headers -/

/-- The KIND code of a kind (section 12.1). -/
def PacketKind.code : PacketKind → BitVec 4
  | .read => 0x1
  | .write => 0x2
  | .writeP => 0x3
  | .readData => 0x4
  | .writeDone => 0x5
  | .init => 0x8
  | .credit => 0x9
  | .reset => 0xA
  | .alert => 0xB

/-- The kind a KIND code names, or none for an undefined code (R174). -/
def PacketKind.ofCode (c : BitVec 4) : Option PacketKind :=
  if c = 0x1 then some .read
  else if c = 0x2 then some .write
  else if c = 0x3 then some .writeP
  else if c = 0x4 then some .readData
  else if c = 0x5 then some .writeDone
  else if c = 0x8 then some .init
  else if c = 0x9 then some .credit
  else if c = 0xA then some .reset
  else if c = 0xB then some .alert
  else none

/-- The kinds that carry data beats (section 12.1). -/
def PacketKind.carriesData : PacketKind → Bool
  | .write => true
  | .writeP => true
  | .readData => true
  | .read => false
  | .writeDone => false
  | .init => false
  | .credit => false
  | .reset => false
  | .alert => false

/-- The header of these 128 bits, bit 0 the least significant (section 12.1). -/
def Header.ofBits (b : BitVec 128) : Header :=
  { kind := b.extractLsb' 0 4, cls := b.extractLsb' 4 2, pressure := b.extractLsb' 6 2, beatsM1 := b.extractLsb' 8 4,
    status := b.extractLsb' 12 5, tag := b.extractLsb' 17 10, txid := b.extractLsb' 27 8, detail := b.extractLsb' 35 8,
    unusedLow := b.extractLsb' 43 21, address := b.extractLsb' 64 48, unusedHigh := b.extractLsb' 112 16 }

/-- The 128 bits of a header (section 12.1). -/
def Header.toBits (h : Header) : BitVec 128 :=
  h.unusedHigh ++ h.address ++ h.unusedLow ++ h.detail ++ h.txid ++ h.tag ++ h.status ++ h.beatsM1 ++ h.pressure
    ++ h.cls ++ h.kind

/-- The check word of a packet: the code over its header and its data (section 12.1). -/
def Packet.checkWord (p : Packet) : CheckWord := Config.checkWord p.header.toBits p.data

/-- A packet as it is sent: with a check word computed afresh over what is sent (R174). -/
def Packet.wire (p : Packet) : WirePacket := { packet := p, check := p.checkWord }

/-- The beats a header names, 1..16: BEATS_M1 + 1 (section 12.1). -/
def Header.beats (h : Header) : Nat := h.beatsM1.toNat + 1

/-- The kind of a packet, or none for an undefined KIND code. -/
def Packet.kind? (p : Packet) : Option PacketKind := PacketKind.ofCode p.header.kind

/-- The packet has the data beats its kind and header call for (R167, R174). -/
def Packet.framed (p : Packet) : Bool :=
  match p.kind? with
  | some k => p.data.length == (if k.carriesData then p.header.beats else 0)
  | none => false

/-- READ, WRITE and WRITE_P are the request kinds. -/
def PacketKind.isRequest : PacketKind → Bool
  | .read => true
  | .write => true
  | .writeP => true
  | .readData => false
  | .writeDone => false
  | .init => false
  | .credit => false
  | .reset => false
  | .alert => false

/-- READ_DATA and WRITE_DONE are the response kinds. -/
def PacketKind.isResponse : PacketKind → Bool
  | .readData => true
  | .writeDone => true
  | .read => false
  | .write => false
  | .writeP => false
  | .init => false
  | .credit => false
  | .reset => false
  | .alert => false

/-- CLASS codes (section 12.1). -/
def classTraffic : BitVec 2 := 0

/-- CLASS code of the management class (section 12.1). -/
def classMgmt : BitVec 2 := 1

/-- A header with every field 0 but its kind: what the bridge writes into the fields a kind does not use (R174). -/
def Header.blank (k : PacketKind) : Header :=
  { kind := k.code, cls := 0, pressure := 0, beatsM1 := 0, status := 0, tag := 0, txid := 0, detail := 0,
    unusedLow := 0, address := 0, unusedHigh := 0 }

/-! ### Link packets (section 12.1) -/

/-- TRAFFIC_GRANT of an INIT, header bits 72:64. -/
def Header.trafficGrant (h : Header) : BitVec 9 := h.address.extractLsb' 0 9

/-- MGMT_GRANT of an INIT, header bits 75:73. -/
def Header.mgmtGrant (h : Header) : BitVec 3 := h.address.extractLsb' 9 3

/-- RESP_GRANT of an INIT, header bits 83:76. -/
def Header.respGrant (h : Header) : BitVec 8 := h.address.extractLsb' 12 8

/-- REQ_GRANT of an INIT, header bits 91:84. -/
def Header.reqGrant (h : Header) : BitVec 8 := h.address.extractLsb' 20 8

/-- CREDIT_CLASS of a CREDIT, header bits 65:64. -/
def Header.creditClass (h : Header) : BitVec 2 := h.address.extractLsb' 0 2

/-- CREDIT_COUNT of a CREDIT, header bits 73:66. -/
def Header.creditCount (h : Header) : BitVec 8 := h.address.extractLsb' 2 8

/-- CREDIT_CLASS codes: traffic, management, response, request. -/
def creditTraffic : BitVec 2 := 0

/-- CREDIT_CLASS code of management credits. -/
def creditMgmt : BitVec 2 := 1

/-- CREDIT_CLASS code of response credits. -/
def creditResponse : BitVec 2 := 2

/-- CREDIT_CLASS code of request credits. -/
def creditRequest : BitVec 2 := 3

/-- An INIT packet with these grants. -/
def initPacket (trafficGrant : BitVec 9) (mgmtGrant : BitVec 3) (respGrant reqGrant : BitVec 8) : Packet :=
  { header :=
      { Header.blank .init with
        address := (0 : BitVec 20) ++ reqGrant ++ respGrant ++ mgmtGrant ++ trafficGrant },
    data := [] }

/-- A CREDIT packet of this class and count. -/
def creditPacket (creditClass : BitVec 2) (count : BitVec 8) : Packet :=
  { header := { Header.blank .credit with address := (0 : BitVec 38) ++ count ++ creditClass }, data := [] }

/-- A RESET packet. -/
def resetPacket : Packet := { header := Header.blank .reset, data := [] }

/-- An ALERT packet to this tag, with the number of records queued (R136). -/
def alertPacket (tag : Tag) (count : Nat) : Packet :=
  { header := { Header.blank .alert with tag := tag, detail := BitVec.ofNat 8 count }, data := [] }

/-! ### Codes (section 12.2) -/

/-- STATUS codes of a management answer. -/
def statusOk : BitVec 5 := 0

/-- STATUS ABORTED. -/
def statusAborted : BitVec 5 := 7

/-- STATUS DENIED. -/
def statusDenied : BitVec 5 := 10

/-- STATUS MGMT_RANGE. -/
def statusMgmtRange : BitVec 5 := 11

/-- STATUS MGMT_READONLY. -/
def statusMgmtReadonly : BitVec 5 := 12

/-- STATUS MGMT_STATE. -/
def statusMgmtState : BitVec 5 := 13

/-- STATUS MGMT_PARAM. -/
def statusMgmtParam : BitVec 5 := 14

/-- STATUS MGMT_MALFORMED. -/
def statusMgmtMalformed : BitVec 5 := 15

end Sys2Proof

namespace Sys2Proof.Machine

/-- STATUS of a refusal. -/
def RefusalCause.status : RefusalCause → BitVec 5
  | .retry => 2
  | .unmapped => 3
  | .retiring => 4
  | .window => 5
  | .malformed => 6

/-- STATUS of a transaction given up on. -/
def CloseCause.status : CloseCause → BitVec 5
  | .timeout => 8
  | .linkLost => 9

/-- The four pressure marks (section 12.1). -/
inductive Pressure where
  | clear | light | heavy | halt
  deriving DecidableEq, Repr

/-- The mark of a PRESSURE field; every value is defined (R174). -/
def Pressure.ofCode (c : BitVec 2) : Pressure :=
  if c = 0 then .clear else if c = 1 then .light else if c = 2 then .heavy else .halt

/-- The outcome of a command (R6, R154). -/
inductive CommandOutcome where
  | accepted | refusedState | badParam | badPacer | badCommand
  deriving DecidableEq, Repr

/-- The DETAIL value of an outcome (section 12.2). -/
def CommandOutcome.code : CommandOutcome → BitVec 8
  | .accepted => 1
  | .refusedState => 2
  | .badParam => 3
  | .badPacer => 4
  | .badCommand => 5

/-- The eight commands of the command word (section 12.2). -/
inductive Command where
  | stage | start | pause | resume | retireFlush | retireDiscard | setSpacing | rearmAlert
  deriving DecidableEq, Repr

/-- The code of a command (section 12.2). -/
def Command.code : Command → BitVec 8
  | .stage => 1
  | .start => 2
  | .pause => 3
  | .resume => 4
  | .retireFlush => 5
  | .retireDiscard => 6
  | .setSpacing => 7
  | .rearmAlert => 8

/-- The command a code names; none for a code outside 0x01..0x08 (R176). -/
def Command.ofCode (c : BitVec 8) : Option Command :=
  if c = 1 then some .stage
  else if c = 2 then some .start
  else if c = 3 then some .pause
  else if c = 4 then some .resume
  else if c = 5 then some .retireFlush
  else if c = 6 then some .retireDiscard
  else if c = 7 then some .setSpacing
  else if c = 8 then some .rearmAlert
  else none

/-- The seven notice kinds (R128). -/
inductive NoticeKind where
  | slow | recovered | retireDone | respTimeout | mismatch | denied | linkReset
  deriving DecidableEq, Repr

/-- The kind of a notice. -/
def NoticeBody.kind : NoticeBody → NoticeKind
  | .slow _ _ => .slow
  | .recovered _ _ => .recovered
  | .retireDone _ => .retireDone
  | .respTimeout _ _ _ => .respTimeout
  | .mismatch _ _ => .mismatch
  | .denied _ => .denied
  | .linkReset _ => .linkReset

/-- The KIND code of a notice (section 12.2). -/
def NoticeKind.code : NoticeKind → BitVec 4
  | .slow => 1
  | .recovered => 2
  | .retireDone => 3
  | .respTimeout => 4
  | .mismatch => 5
  | .denied => 6
  | .linkReset => 7

/-- The bit of the enables word that enables a kind (section 12.3). -/
def NoticeKind.enableBit : NoticeKind → Nat
  | .slow => 0
  | .recovered => 1
  | .retireDone => 2
  | .respTimeout => 3
  | .mismatch => 4
  | .denied => 5
  | .linkReset => 6

/-- The pacer of a crossing record, SLOW or RECOVERED; none for the plain kinds (R129). -/
def NoticeBody.crossingOf : NoticeBody → Option PacerId
  | .slow p _ => some p
  | .recovered p _ => some p
  | .retireDone _ => none
  | .respTimeout _ _ _ => none
  | .mismatch _ _ => none
  | .denied _ => none
  | .linkReset _ => none

/-- The sixteen global counters, in the order of section 12.3. -/
inductive Counter where
  | retry | unmapped | retiring | window | malformed | denied | postedDrops | stale | late | mismatch
  | orphanDiscards | timeouts | aborted | linkResetsI | linkResetsT | mgmtPostedDrops
  deriving DecidableEq, Repr

/-- The place of a counter in the order of section 12.3. -/
def Counter.index : Counter → Fin 16
  | .retry => 0
  | .unmapped => 1
  | .retiring => 2
  | .window => 3
  | .malformed => 4
  | .denied => 5
  | .postedDrops => 6
  | .stale => 7
  | .late => 8
  | .mismatch => 9
  | .orphanDiscards => 10
  | .timeouts => 11
  | .aborted => 12
  | .linkResetsI => 13
  | .linkResetsT => 14
  | .mgmtPostedDrops => 15

/-- The counter of a refusal's cause (R86). -/
def RefusalCause.counter : RefusalCause → Counter
  | .retry => .retry
  | .unmapped => .unmapped
  | .retiring => .retiring
  | .window => .window
  | .malformed => .malformed

/-! ### The management window (R141, section 12.3) -/

/-- The words of the window. -/
inductive WindowWord where
  | identity
  | tickLen
  | respTimeout
  | enables
  | defaultPacer
  | command
  | pop
  | peek
  | manager (e : Fin 4)
  | counter (c : Fin 16)
  | config (p : PacerId) (w : Fin 7)
  | dynamic (p : PacerId) (w : Fin 7)
  | tagMap (t : Tag)
  | outstanding (n : EntryId)
  deriving DecidableEq, Repr

/-- The window offset of a word (section 12.3). -/
def WindowWord.offset : WindowWord → Nat
  | .identity => 0x0000
  | .tickLen => 0x0008
  | .respTimeout => 0x0010
  | .enables => 0x0018
  | .defaultPacer => 0x0020
  | .command => 0x0028
  | .pop => 0x0030
  | .peek => 0x0038
  | .manager e => 0x0040 + 8 * e.val
  | .counter c => 0x0080 + 8 * c.val
  | .config p w => 0x1000 + 0x80 * p.val + 8 * w.val
  | .dynamic p w => 0x1000 + 0x80 * p.val + 0x38 + 8 * w.val
  | .tagMap t => 0x6000 + 8 * t.toNat
  | .outstanding n => 0x8000 + 8 * n.val

/-- The word at place `k` of a pacer's block of sixteen: +0x00 to +0x30 configuration, +0x38 to +0x68 dynamic, +0x70 and
+0x78 unassigned (section 12.3.1). -/
def pacerWordAt (p : PacerId) (k : Nat) : Option WindowWord :=
  if h : k < 7 then some (.config p ⟨k, h⟩)
  else if h : k - 7 < 7 then some (.dynamic p ⟨k - 7, h⟩)
  else none

/-- The word whose first byte stands at a window offset that is a multiple of 8, or none for an unassigned offset
(section 12.3). -/
def wordAt (offset : Nat) : Option WindowWord :=
  let k := offset / 8
  if k = 0 then some .identity
  else if k = 1 then some .tickLen
  else if k = 2 then some .respTimeout
  else if k = 3 then some .enables
  else if k = 4 then some .defaultPacer
  else if k = 5 then some .command
  else if k = 6 then some .pop
  else if k = 7 then some .peek
  else if h : 8 ≤ k ∧ k - 8 < 4 then some (.manager ⟨k - 8, h.2⟩)
  else if h : 16 ≤ k ∧ k - 16 < 16 then some (.counter ⟨k - 16, h.2⟩)
  else if h : 0x200 ≤ k ∧ (k - 0x200) / 16 < 128 then pacerWordAt ⟨(k - 0x200) / 16, h.2⟩ ((k - 0x200) % 16)
  else if 0xC00 ≤ k ∧ k - 0xC00 < 1024 then some (.tagMap (BitVec.ofNat 10 (k - 0xC00)))
  else if h : 0x1000 ≤ k ∧ k - 0x1000 < 128 then some (.outstanding ⟨k - 0x1000, h.2⟩)
  else none

/-- The first address of the management window with these window-base straps (R141). -/
def windowBase (wbase : BitVec 4) : Nat := 0xFFFFFF000000 + wbase.toNat * 0x10000

/-- The bytes of the management window (R141). -/
def windowBytes : Nat := 0x10000

/-- The address of a word of the window. -/
def wordAddress (s : State) (w : WindowWord) : BitVec 48 :=
  BitVec.ofNat 48 (windowBase s.pins.wbase + w.offset)

/-- The data beat whose bytes 0..7 are this word and the others zero (R141). -/
def wordBeat (v : MgmtWord) : Beat := v.setWidth 256

/-- The word in bytes 0..7 of a beat; bytes 8..31 are ignored (R141). -/
def beatWord (b : Beat) : MgmtWord := b.setWidth 64

/-- The management WRITE of one beat from this sender, to this word, with this value. -/
def writeRequest (s : State) (src : Sender) (w : WindowWord) (value : MgmtWord) : Packet :=
  { header :=
      { Header.blank .write with cls := classMgmt, tag := src.tag, txid := src.txid, address := wordAddress s w },
    data := [wordBeat value] }

/-- The management READ of one beat from this sender, of this word. -/
def readRequest (s : State) (src : Sender) (w : WindowWord) : Packet :=
  { header :=
      { Header.blank .read with cls := classMgmt, tag := src.tag, txid := src.txid, address := wordAddress s w },
    data := [] }

/-- The value of the command word that gives this code, pacer field and operand: CODE 7:0, PACER 15:8, OPERAND 31:16
(section 12.3). -/
def commandWord (code pacer : BitVec 8) (operand : BitVec 16) : MgmtWord :=
  (0 : BitVec 32) ++ operand ++ pacer ++ code

/-- `x` standing at bit `at_` of a word. -/
def place {n : Nat} (x : BitVec n) (at_ : Nat) : MgmtWord := x.setWidth 64 <<< at_

/-- A flag standing at bit `at_` of a word. -/
def placeFlag (b : Bool) (at_ : Nat) : MgmtWord := place (BitVec.ofBool b) at_

/-- A count standing in `n` bits at bit `at_` of a word. -/
def placeCount (x n at_ : Nat) : MgmtWord := place (BitVec.ofNat n x) at_

/-! ### Layouts of the words (section 12.3) -/

/-- A PACER 7:0 and BOUND 15 word, of DEFAULT_PACER and of a tag map entry; both fields read 0 when unbound (R175). -/
def bindingWord : Option PacerId → MgmtWord
  | none => 0
  | some p => placeCount p.val 8 0 ||| placeFlag true 15

/-- What a write of a binding word asks for (R78, R79, R175). -/
inductive BindRequest where
  | none
  | pacer (p : PacerId)
  | badPacer
  deriving DecidableEq, Repr

/-- A binding word as written: BOUND clear is none whatever PACER holds, and PACER above 127 names no pacer (R175). -/
def bindRequest (v : MgmtWord) : BindRequest :=
  if v.getLsbD 15 then
    if h : (v.extractLsb' 0 8).toNat < 128 then .pacer ⟨(v.extractLsb' 0 8).toNat, h⟩ else .badPacer
  else .none

/-- A manager list word: TAG 9:0, VALID 15. -/
def managerWord (m : ManagerEntry) : MgmtWord := place m.tag 0 ||| placeFlag m.valid 15

/-- A manager list entry as written. -/
def managerOfWord (v : MgmtWord) : ManagerEntry := { valid := v.getLsbD 15, tag := v.extractLsb' 0 10 }

/-- The last-command record as the command word reads (R176). -/
def lastCommandWord (c : LastCommand) : MgmtWord :=
  place c.code 0 ||| place c.pacer 8 ||| place c.operand 16 ||| place c.outcome 32 ||| placeFlag c.valid 63

/-- Configuration word `w` of a pacer as it reads (section 12.3.1). -/
def configWord (c : PacerConfig) (w : Fin 7) : MgmtWord :=
  match w with
  | 0 => place c.spaceMin 0
  | 1 => place c.spaceMax 0
  | 2 => place c.spaceStart 0
  | 3 => place c.upShift 0 ||| place c.downShift 8 ||| place c.window 16 ||| place c.markLimit 24
  | 4 => place c.slowAt 0 ||| place c.slowBand 16
  | 5 => place c.idleLimit 0 ||| place c.drainSpace 16 ||| place c.priority 32
  | 6 => place c.flightCap 0 ||| place c.queueLimit 16

/-- The configuration with every field of word `w` taken from the written value, the other bits ignored (R17, R175). -/
def configWithWord (c : PacerConfig) (w : Fin 7) (v : MgmtWord) : PacerConfig :=
  match w with
  | 0 => { c with spaceMin := v.extractLsb' 0 16 }
  | 1 => { c with spaceMax := v.extractLsb' 0 16 }
  | 2 => { c with spaceStart := v.extractLsb' 0 16 }
  | 3 =>
    { c with
      upShift := v.extractLsb' 0 4, downShift := v.extractLsb' 8 4, window := v.extractLsb' 16 8,
      markLimit := v.extractLsb' 24 8 }
  | 4 => { c with slowAt := v.extractLsb' 0 16, slowBand := v.extractLsb' 16 16 }
  | 5 =>
    { c with
      idleLimit := v.extractLsb' 0 16, drainSpace := v.extractLsb' 16 16, priority := v.extractLsb' 32 2 }
  | 6 => { c with flightCap := v.extractLsb' 0 8, queueLimit := v.extractLsb' 16 9 }

/-- STATE of a pacer as its word shows it. -/
def PacerState.code : PacerState → BitVec 3
  | .vacant => 0
  | .staged => 1
  | .live => 2
  | .paused => 3
  | .draining => 4
  | .sweeping => 5

/-- RETIRE_MODE as its word shows it. -/
def retireModeCode : Option RetireMode → BitVec 2
  | none => 0
  | some .flush => 1
  | some .discard => 2

/-- Dynamic word `w` of a pacer, +0x38 to +0x68 (section 12.3.1). -/
def dynamicWord (c : Pacer) (w : Fin 7) : MgmtWord :=
  match w with
  | 0 =>
    place c.state.code 0 ||| place (retireModeCode c.retireMode) 4 ||| placeFlag c.demand 8 ||| placeFlag c.slow 9
      ||| placeFlag c.crossPending 10 ||| place c.spacing 16
  | 1 => c.due
  | 2 => c.lastDepart
  | 3 =>
    placeCount c.flight 8 0 ||| placeCount c.qlen 9 16 ||| placeCount c.winCount 7 32 ||| placeCount c.winMarks 7 40
  | 4 => place c.departCount 0
  | 5 => place c.beatCount 0
  | 6 => place c.refuseCount 0

/-- STATE of an outstanding entry as its word shows it. -/
def EntryState.code : EntryState → BitVec 2
  | .free => 0
  | .busy => 1
  | .closing => 2
  | .quarantine => 3

/-- A word of the outstanding view (R111). -/
def entryWord (e : Entry) : MgmtWord :=
  place e.state.code 0 ||| placeCount e.pacer.val 7 8 ||| place e.tag 16 ||| place e.upTxid 32

/-- The identity word (R151). -/
def identityWord : MgmtWord := place Config.partCode 0 ||| place Config.revisionCode 16

/-- Bytes 0..7 of the reply that carries a notice; a field absent for the kind reads 0 (R177). -/
def noticeWord : NoticeBody → MgmtWord
  | .slow p v => place NoticeKind.slow.code 0 ||| placeCount p.val 7 8 ||| place v 40
  | .recovered p v => place NoticeKind.recovered.code 0 ||| placeCount p.val 7 8 ||| place v 40
  | .retireDone p => place NoticeKind.retireDone.code 0 ||| placeCount p.val 7 8
  | .respTimeout p t x =>
    place NoticeKind.respTimeout.code 0 ||| placeCount p.val 7 8 ||| place t 16 ||| place x 32
  | .mismatch p t => place NoticeKind.mismatch.code 0 ||| placeCount p.val 7 8 ||| place t 16
  | .denied t => place NoticeKind.denied.code 0 ||| place t 16
  | .linkReset .i => place NoticeKind.linkReset.code 0
  | .linkReset .t => place NoticeKind.linkReset.code 0 ||| placeCount 1 16 40

/-- The beat that answers a pop or a peek: the record, or EMPTY with every record field 0, then the count and OVERFLOW
(R177). -/
def noticeBeat (record : Option Notice) (count : Nat) (overflow : Bool) : Beat :=
  let low := match record with
    | some r => noticeWord r.body
    | none => 0
  let stamp := match record with
    | some r => r.stamp
    | none => 0
  let high : MgmtWord := place stamp 0 ||| placeCount count 6 32 ||| placeFlag overflow 40
  (0 : BitVec 128) ++ high ++ low

/-! ### Bridge-made responses (R121) -/

/-- The response that answers a request kind: a READ_DATA of one beat for a READ, a WRITE_DONE for a WRITE; class,
tag, TXID, status and detail as given, pressure 0 and every other field 0 (R121, R174). -/
def bridgeResponse (isRead : Bool) (cls : BitVec 2) (tag : Tag) (txid : Txid) (status : BitVec 5) (detail : BitVec 8)
    (beat : Beat) : Packet :=
  if isRead then
    { header :=
        { Header.blank .readData with cls := cls, tag := tag, txid := txid, status := status, detail := detail },
      data := [beat] }
  else
    { header :=
        { Header.blank .writeDone with cls := cls, tag := tag, txid := txid, status := status, detail := detail },
      data := [] }

/-- The request is a READ. -/
def isRead (p : Packet) : Bool := p.kind? == some .read

/-- The request is a posted write. -/
def isPosted (p : Packet) : Bool := p.kind? == some .writeP

end Sys2Proof.Machine
end

