-- ==== Sys2Proof/Machine/Ops.lean ====
section
/-!
DEFINITION. The named operations over the state that every block shares: reading and writing a table, counting,
returning a credit, handing a packet to a port, and entering a notice.
-/

namespace Sys2Proof.Machine

/-! ### Tables -/

/-- The entry of a table. -/
def tableGet {α : Type} {n : Nat} (t : Vector α n) (i : Fin n) : α := t.get i

/-- The table with one entry replaced. -/
def tableSet {α : Type} {n : Nat} (t : Vector α n) (i : Fin n) (x : α) : Vector α n := t.set i.val x i.isLt

/-- The place of a tag in the Tag Map. -/
def tagIndex (t : Tag) : Fin 1024 := ⟨t.toNat, by have := t.isLt; omega⟩

/-- Pacer `p`'s context (R1). -/
def State.pacer (s : State) (p : PacerId) : Pacer := tableGet s.pacers p

/-- The state with pacer `p`'s context replaced. -/
def State.setPacer (s : State) (p : PacerId) (c : Pacer) : State := { s with pacers := tableSet s.pacers p c }

/-- The state with pacer `p`'s context changed. -/
def State.modPacer (s : State) (p : PacerId) (f : Pacer → Pacer) : State := s.setPacer p (f (s.pacer p))

/-- Pacer `p`'s queue, oldest request first (R64). -/
def State.queue (s : State) (p : PacerId) : List HoldSlot := tableGet s.queues p

/-- The state with pacer `p`'s queue replaced. -/
def State.setQueue (s : State) (p : PacerId) (q : List HoldSlot) : State := { s with queues := tableSet s.queues p q }

/-- Outstanding entry `n` (R94). -/
def State.entry (s : State) (n : EntryId) : Entry := tableGet s.outstanding n

/-- The state with outstanding entry `n` replaced. -/
def State.setEntry (s : State) (n : EntryId) (e : Entry) : State :=
  { s with outstanding := tableSet s.outstanding n e }

/-- The Tag Map entry of a tag (R76). -/
def State.binding (s : State) (t : Tag) : Option PacerId := tableGet s.tagMap (tagIndex t)

/-- The state with the Tag Map entry of a tag replaced. -/
def State.setBinding (s : State) (t : Tag) (b : Option PacerId) : State :=
  { s with tagMap := tableSet s.tagMap (tagIndex t) b }

/-- Manager list entry `e` (R147). -/
def State.manager (s : State) (e : Fin 4) : ManagerEntry := tableGet s.agent.managers e

/-- The state with manager list entry `e` replaced. -/
def State.setManager (s : State) (e : Fin 4) (m : ManagerEntry) : State :=
  { s with agent := { s.agent with managers := tableSet s.agent.managers e m } }

/-! ### Counters -/

/-- One more, staying at 0xFFFF_FFFF (R153). -/
def saturatingSucc (c : BitVec 32) : BitVec 32 := if c = 0xFFFFFFFF then c else c + 1

/-- A global counter (R153). -/
def State.counter (s : State) (c : Counter) : BitVec 32 := tableGet s.agent.counters c.index

/-- The state with the counter at this place replaced. -/
def State.setCounterAt (s : State) (i : Fin 16) (v : BitVec 32) : State :=
  { s with agent := { s.agent with counters := tableSet s.agent.counters i v } }

/-- A global counter rises by 1, saturating (R153). -/
def State.bump (s : State) (c : Counter) : State := s.setCounterAt c.index (saturatingSucc (s.counter c))

/-! ### Credits and packets of the ports -/

/-- A return counts in these states of the port and is absorbed in the others (R165). -/
def LinkState.countsReturns : LinkState → Bool
  | .up => true
  | .initWait => true
  | .fault => false
  | .down => false

/-- One traffic credit is returned on Link port I (R67, R165). -/
def State.returnTraffic (s : State) : State :=
  if s.linkI.state.countsReturns then
    { s with
      creditsI :=
        { s.creditsI with
          givenTraffic := s.creditsI.givenTraffic + 1, returnTraffic := s.creditsI.returnTraffic + 1 } }
  else s

/-- One management credit is returned on Link port I (R142, R165). -/
def State.returnMgmt (s : State) : State :=
  if s.linkI.state.countsReturns then
    { s with
      creditsI :=
        { s.creditsI with givenMgmt := s.creditsI.givenMgmt + 1, returnMgmt := s.creditsI.returnMgmt + 1 } }
  else s

/-- `n` response credits are returned on Link port T (R117, R165). -/
def State.returnResponses (s : State) (n : Nat) : State :=
  if s.linkT.state.countsReturns then
    { s with
      creditsT :=
        { s.creditsT with givenResp := s.creditsT.givenResp + n, returnResp := s.creditsT.returnResp + n } }
  else s

/-- A packet is handed to Link port I, which sends it with a fresh check word (R166, R174). -/
def State.handI (s : State) (p : Packet) : State := { s with linkI := { s.linkI with lane := s.linkI.lane ++ [p.wire] } }

/-- A packet is handed to Link port T, which sends it with a fresh check word (R166, R174). -/
def State.handT (s : State) (p : Packet) : State := { s with linkT := { s.linkT with lane := s.linkT.lane ++ [p.wire] } }

/-! ### Occupancy -/

/-- The item holds a hold slot of the refusal-pending set (R66). -/
def ReplyItem.holdsRefusedSlot : ReplyItem → Bool
  | .refusal _ _ _ => true
  | .aborted _ => false
  | .givenUp _ _ => false
  | .mgmt _ _ _ => false

/-- The slots that stand in the pacer queues (R62). -/
def State.queuedSlots (s : State) : Nat := (s.queues.toList.map List.length).sum

/-- The slots of the refusal-pending set (R66). -/
def State.refusalPending (s : State) : Nat := s.replies.countP ReplyItem.holdsRefusedSlot

/-- The occupied hold slots: the requests in all queues and the refusal-pending requests (R74). -/
def State.occupiedSlots (s : State) : Nat := s.queuedSlots + s.refusalPending

/-- The FREE hold slots (R62, R68). -/
def State.freeSlots (s : State) : Nat := Config.holdSlots - s.occupiedSlots

/-- The Response Buffer entry came from the target. -/
def BufferedResponse.fromTarget (r : BufferedResponse) : Bool :=
  match r.origin with
  | .target => true
  | .bridge => false

/-- The target-origin count (R113). -/
def State.targetCount (s : State) : Nat := s.responses.countP BufferedResponse.fromTarget

/-- The bridge-made count (R113). -/
def State.bridgeCount (s : State) : Nat := s.responses.countP (fun r => !r.fromTarget)

/-- The pacer's BUSY entries in the table (R112). -/
def State.busyCount (s : State) (p : PacerId) : Nat :=
  s.outstanding.toList.countP (fun e => e.state == .busy && e.pacer == p)

/-! ### Notices and alerts (chapter 8) -/

/-- ALERT_ENABLE, bit 7 of the enables word (R152). -/
def State.alertEnable (s : State) : Bool := s.agent.enables.getLsbD 7

/-- The enable of a notice kind (R130). -/
def State.noticeEnable (s : State) (k : NoticeKind) : Bool := s.agent.enables.getLsbD k.enableBit

/-- STAMP: the low 32 bits of the pacing time (R128). -/
def State.stamp (s : State) : BitVec 32 := s.clock.pacingTime.setWidth 32

/-- An ALERT becomes due: ALERT_ARMED clears, and the packet is handed to Link port I if it is UP and made pending if not
(R136). -/
def State.alertDue (s : State) : State :=
  let s := { s with notices := { s.notices with alertArmed := false } }
  if s.linkI.state = .up then s.handI (alertPacket (s.manager 0).tag s.notices.records.length)
  else { s with notices := { s.notices with alertPending := true } }

/-- A record is entered at the tail; into an empty queue, with ALERT_ENABLE and ALERT_ARMED set, it makes an ALERT due
(R131, R136). -/
def State.enterNotice (s : State) (b : NoticeBody) : State :=
  let wasEmpty := s.notices.records.isEmpty
  let s := { s with notices := { s.notices with records := s.notices.records ++ [⟨b, s.stamp⟩] } }
  if wasEmpty && s.alertEnable && s.notices.alertArmed then s.alertDue else s

/-- OVERFLOW becomes set: a notice was lost (R131). -/
def State.loseNotice (s : State) : State := { s with notices := { s.notices with overflow := true } }

/-- The Notice Queue holds fewer than 32 records (R131). -/
def State.noticeRoom (s : State) : Bool := decide (s.notices.records.length < Config.noticeRecords)

/-- A plain notice is handed to the Notice Queue: discarded if its kind is disabled, entered if there is room, lost
otherwise (R130, R131). -/
def State.plainNotice (s : State) (b : NoticeBody) : State :=
  if s.noticeEnable b.kind then
    if s.noticeRoom then s.enterNotice b else s.loseNotice
  else s

/-- Pacer `p`'s pending SLOW or RECOVERED record leaves the queue from wherever it stands, and CROSS_PENDING becomes
clear (R132, R133). -/
def State.removeCrossing (s : State) (p : PacerId) : State :=
  let s := { s with
    notices := { s.notices with records := s.notices.records.filter (fun r => r.body.crossingOf != some p) } }
  s.modPacer p (fun c => { c with crossPending := false })

end Sys2Proof.Machine
end

