-- ==== Sys2Proof/Machine/Flags.lean ====
section
/-!
DEFINITION. The flags of a pacer and the events that set and clear them: CROSS_PENDING at a crossing (R132), SLOW at the
crossing check (R36, R37), DEMAND and the window at a restart (R25), CROSS_PENDING at the withdrawal (R133); and the alert
flags at a write of ALERT_ENABLE and at REARM_ALERT (R137).
-/

namespace Sys2Proof.Machine

/-- A crossing of pacer `p` is handed to the Notice Queue, settled by its enable and then by CROSS_PENDING
(R38, R130, R132). -/
def crossing (p : PacerId) (b : NoticeBody) (s : State) : State :=
  if s.noticeEnable b.kind then
    if (s.pacer p).crossPending then s.removeCrossing p
    else if s.noticeRoom then (s.enterNotice b).modPacer p (fun c => { c with crossPending := true })
    else s.loseNotice
  else s

/-- What the crossing check finds: SLOW to be set, SLOW to be cleared, or nothing (R36, R37). -/
inductive CrossingResult where
  | goesSlow | recovers | stays
  deriving DecidableEq, Repr

/-- The crossing check's judgement of SLOW, SPACING, SLOW_AT and SLOW_BAND (R36, R37). -/
def crossingResult (c : Pacer) : CrossingResult :=
  if c.cfg.slowAt = 0 then
    if c.slow then .recovers else .stays
  else if c.slow then
    if c.spacing.toNat ≤ c.cfg.slowAt.toNat - c.cfg.slowBand.toNat then .recovers else .stays
  else if c.cfg.slowAt.toNat < c.spacing.toNat then .goesSlow
  else .stays

/-- The crossing check of pacer `p` (R36, R37): SLOW changes, and then the crossing is handed over with SPACING (R38). -/
def crossingCheck (p : PacerId) (s : State) : State :=
  match crossingResult (s.pacer p) with
  | .goesSlow => crossing p (.slow p (s.pacer p).spacing) (s.modPacer p (fun c => { c with slow := true }))
  | .recovers => crossing p (.recovered p (s.pacer p).spacing) (s.modPacer p (fun c => { c with slow := false }))
  | .stays => s

/-- The window restart (R25). -/
def windowRestart (c : Pacer) : Pacer := { c with winCount := 0, winMarks := 0, demand := false }

/-- The withdrawal of a pending crossing at the entry to DRAINING (R133). -/
def withdrawCrossing (p : PacerId) (s : State) : State :=
  if (s.pacer p).crossPending then s.removeCrossing p else s

/-- REARM_ALERT: ALERT_ARMED becomes set, and an ALERT becomes due at once if alerts are enabled and a record waits
(R137). -/
def rearmAlert (s : State) : State :=
  let s := { s with notices := { s.notices with alertArmed := true } }
  if s.alertEnable && !s.notices.records.isEmpty then s.alertDue else s

/-- The enables word takes the written flags, and a change of ALERT_ENABLE acts on the alert flags (R137, R152). -/
def writeEnables (v : BitVec 8) (s : State) : State :=
  let before := s.alertEnable
  let s := { s with agent := { s.agent with enables := v } }
  if before && !s.alertEnable then
    { s with notices := { s.notices with alertPending := false, alertArmed := true } }
  else if !before && s.alertEnable && s.notices.alertArmed && !s.notices.records.isEmpty then s.alertDue
  else s

end Sys2Proof.Machine
end

