-- ==== Sys2Proof/Machine/Adaptation.lean ====
section
/-!
DEFINITION. Spacing adaptation (chapter 02) and the legality of a configuration (R5).
-/

namespace Sys2Proof.Machine

/-- The legality check of R5 on a configuration: every field in its range of R1, the order of the spacings, MARK_LIMIT
within WINDOW, and the threshold and band. -/
def legal (c : PacerConfig) : Bool :=
  decide (1 ≤ c.spaceMin.toNat) && decide (1 ≤ c.spaceMax.toNat) && decide (1 ≤ c.spaceStart.toNat)
    && decide (1 ≤ c.upShift.toNat ∧ c.upShift.toNat ≤ 8) && decide (c.downShift.toNat ≤ 7)
    && decide (4 ≤ c.window.toNat ∧ c.window.toNat ≤ 64)
    && decide (1 ≤ c.markLimit.toNat ∧ c.markLimit.toNat ≤ c.window.toNat)
    && decide (1 ≤ c.flightCap.toNat ∧ c.flightCap.toNat ≤ 128)
    && decide (1 ≤ c.queueLimit.toNat ∧ c.queueLimit.toNat ≤ 256)
    && decide (c.spaceMin.toNat ≤ c.spaceStart.toNat ∧ c.spaceStart.toNat ≤ c.spaceMax.toNat)
    && (if c.slowAt = 0 then decide (c.slowBand = 0)
        else decide (c.spaceMin.toNat ≤ c.slowAt.toNat ∧ c.slowAt.toNat ≤ c.spaceMax.toNat)
          && decide (c.slowBand.toNat < c.slowAt.toNat))

/-- A step of the spacing: the spacing shifted down, at least 1 (R23, R24). -/
def stepSize (spacing : BitVec 16) (shift : BitVec 4) : Nat := max 1 (spacing.toNat / 2 ^ shift.toNat)

/-- The increase step: SPACING falls by the step, to SPACE_MIN at least (R23). -/
def increaseStep (c : Pacer) : Pacer :=
  let d := stepSize c.spacing c.cfg.upShift
  { c with
    spacing :=
      if c.spacing.toNat < c.cfg.spaceMin.toNat + d then c.cfg.spaceMin else BitVec.ofNat 16 (c.spacing.toNat - d) }

/-- The decrease step: SPACING rises by the step, formed in full, to SPACE_MAX at most (R24). -/
def decreaseStep (c : Pacer) : Pacer :=
  let d := stepSize c.spacing c.cfg.downShift
  { c with
    spacing :=
      if c.cfg.spaceMax.toNat < c.spacing.toNat + d then c.cfg.spaceMax else BitVec.ofNat 16 (c.spacing.toNat + d) }

/-- A spacing clamped to SPACE_MIN..SPACE_MAX (R10, R11, R19). -/
def clampSpacing (c : PacerConfig) (v : BitVec 16) : BitVec 16 :=
  if v.toNat < c.spaceMin.toNat then c.spaceMin else if c.spaceMax.toNat < v.toNat then c.spaceMax else v

/-- Adaptation acts on a pacer in LIVE and in PAUSED (R22). -/
def adapts (c : Pacer) : Bool :=
  match c.state with
  | .live => true
  | .paused => true
  | .vacant => false
  | .staged => false
  | .draining => false
  | .sweeping => false

/-- The judgement of a closing window: a decrease, an increase or no step (R30). -/
def windowVerdict (c : Pacer) : Pacer :=
  if c.cfg.markLimit.toNat ≤ c.winMarks then decreaseStep c
  else if c.winMarks = 0 ∧ c.demand then increaseStep c
  else c

/-- A CLEAR or LIGHT response tallied (R27). -/
def tally (marked : Bool) (c : Pacer) : Pacer :=
  { c with winCount := c.winCount + 1, winMarks := c.winMarks + (if marked then 1 else 0) }

/-- A CLEAR or LIGHT counted response: tallied, and the window closes when WIN_COUNT reaches WINDOW (R27, R30). -/
def windowResponse (p : PacerId) (marked : Bool) (s : State) : State :=
  let c := tally marked (s.pacer p)
  if c.winCount = c.cfg.window.toNat then crossingCheck p (s.setPacer p (windowRestart (windowVerdict c)))
  else s.setPacer p c

/-- SPACING set to SPACE_MAX and the window restarted: HALT and the timeout halt (R29, R34). -/
def haltPacer (c : Pacer) : Pacer := windowRestart { c with spacing := c.cfg.spaceMax }

/-- A counted response of pacer `p` (R26 to R30), ignored unless the pacer adapts (R22). -/
def countedResponse (p : PacerId) (m : Pressure) (s : State) : State :=
  if adapts (s.pacer p) then
    match m with
    | .clear => windowResponse p false s
    | .light => windowResponse p true s
    | .heavy => crossingCheck p (s.modPacer p (fun c => windowRestart (decreaseStep c)))
    | .halt => crossingCheck p (s.modPacer p haltPacer)
  else s

/-- The timeout halt of pacer `p` (R34), taken only if the pacer adapts. -/
def timeoutHalt (p : PacerId) (s : State) : State :=
  if adapts (s.pacer p) then crossingCheck p (s.modPacer p haltPacer) else s

/-- The idle rule applies to this pacer at this pacing time: the three conditions of R33 and no other. DESIGN CHOICE: R33 also says
that it cannot act at the first departure after START, yet all three can hold there; the model follows the conditions
(notes/assumptions/24.md). -/
def idleRuleApplies (now : PacingTime) (c : Pacer) : Bool :=
  decide (c.cfg.idleLimit ≠ 0) && decide (c.cfg.idleLimit.toNat * 256 < now.toNat - c.lastDepart.toNat)
    && decide (c.spacing.toNat < c.cfg.spaceStart.toNat)

/-- The idle rule at a departure of a LIVE pacer (R33). -/
def idleRule (p : PacerId) (s : State) : State :=
  if idleRuleApplies s.clock.pacingTime (s.pacer p) then
    crossingCheck p (s.modPacer p (fun c => { c with spacing := c.cfg.spaceStart }))
  else s

end Sys2Proof.Machine
end

