-- ==== Sys2Proof/Machine/HoldBuffer.lean ====
section
/-!
DEFINITION. The Hold Buffer (chapter 04), the calendar's membership (R46 to R49), drain completion (R15) and the start of a
sweep (R88), which the events that lower QLEN or FLIGHT share.
-/

namespace Sys2Proof.Machine

/-! ### The calendar (R46, R47) -/

/-- A pacer put among others in increasing number, once. -/
def insertPacer (p : PacerId) : List PacerId → List PacerId
  | [] => [p]
  | q :: rest => if p < q then p :: q :: rest else if p = q then q :: rest else q :: insertPacer p rest

/-- The terms of membership: LIVE or DRAINING with FLUSH, QLEN above 0 and FLIGHT below FLIGHT_CAP (R47). -/
def onTerms (c : Pacer) : Bool :=
  (match c.state with
    | .live => true
    | .draining => c.retireMode == some .flush
    | .vacant => false
    | .staged => false
    | .paused => false
    | .sweeping => false)
    && decide (0 < c.qlen) && decide (c.flight < c.cfg.flightCap.toNat)

/-- Pacer `p` joins the calendar, its DUE as it stands. -/
def joinCalendar (p : PacerId) (s : State) : State := { s with calendar := insertPacer p s.calendar }

/-- Pacer `p` leaves the calendar. -/
def leaveCalendar (p : PacerId) (s : State) : State := { s with calendar := s.calendar.filter (fun q => q != p) }

/-- Pacer `p`'s place is settled by the terms of R47, its DUE as it stands. -/
def settleCalendar (p : PacerId) (s : State) : State :=
  if onTerms (s.pacer p) then joinCalendar p s else leaveCalendar p s

/-! ### Drain completion and the start of a sweep -/

/-- Whenever the cursor is idle and a pacer waits, the Sweeper takes the head of the sweep queue (R88). -/
def startSweep (s : State) : State :=
  match s.sweeper.cursor, s.sweeper.queue with
  | .idle, p :: rest => { s with sweeper := { queue := rest, cursor := .defaultStep p } }
  | .idle, [] => s
  | .defaultStep _, _ => s
  | .visit _ _, _ => s

/-- A DRAINING pacer with QLEN and FLIGHT both 0 (R15). -/
def drained (c : Pacer) : Bool := c.state == .draining && decide (c.qlen = 0) && decide (c.flight = 0)

/-- The drain completion check of pacer `p` (R15): SWEEPING, RETIRE_MODE absent, and the tail of the sweep queue, whose head
the Sweeper takes if it is idle (R88). -/
def drainCheck (p : PacerId) (s : State) : State :=
  if drained (s.pacer p) then
    let s := s.modPacer p (fun c => { c with state := .sweeping, retireMode := none })
    startSweep { s with sweeper := { s.sweeper with queue := s.sweeper.queue ++ [p] } }
  else s

/-- The drain completion check of several pacers, one after another. -/
def drainCheckAll : List PacerId → State → State
  | [], s => s
  | p :: rest, s => drainCheckAll rest (drainCheck p s)

/-- A pacer put into an order by rank, before those of a larger rank. -/
def insertByRank (rank : PacerId → Nat) (p : PacerId) : List PacerId → List PacerId
  | [] => [p]
  | q :: rest => if rank p ≤ rank q then p :: q :: rest else q :: insertByRank rank p rest

/-- Pacers in order of rank. -/
def sortByRank (rank : PacerId → Nat) : List PacerId → List PacerId
  | [] => []
  | p :: rest => insertByRank rank p (sortByRank rank rest)

/-- The drains that one link reset completes, in an order the spec leaves open (notes/assumptions/8.md). -/
def completeDrains (s : State) : State :=
  let waiting := (List.finRange 128).filter (fun p => drained (s.pacer p))
  drainCheckAll (sortByRank (Config.drainRank s.draws) waiting) { s with draws := s.draws + 1 }

/-! ### Slots (R63 to R67) -/

/-- The head of pacer `p`'s queue leaves it: QLEN falls by 1, the slot frees and returns one traffic credit
(R65, R67). Nothing happens on an empty queue. -/
def removeHead (p : PacerId) (s : State) : State :=
  match s.queue p with
  | [] => s
  | _ :: rest => ((s.setQueue p rest).modPacer p (fun c => { c with qlen := c.qlen - 1 })).returnTraffic

/-- An admitted request joins the tail of pacer `p`'s queue, and QLEN rises by 1 (R64). -/
def joinQueue (p : PacerId) (r : Packet) (s : State) : State :=
  (s.setQueue p (s.queue p ++ [{ request := r, aborting := false }])).modPacer p (fun c => { c with qlen := c.qlen + 1 })

/-- An item joins the tail of the Reply List (R118). -/
def pushReply (i : ReplyItem) (s : State) : State := { s with replies := s.replies ++ [i] }

/-! ### DISCARD processing (R69) -/

/-- The head of pacer `p`'s queue takes the ABORTING mark and its ABORTED item joins the Reply List (R69). -/
def abortHead (p : PacerId) (h : HoldSlot) (rest : List HoldSlot) (s : State) : State :=
  pushReply (.aborted p) (s.setQueue p ({ h with aborting := true } :: rest))

/-- DISCARD processing along a queue: posted writes at the head are dropped, and the first READ or WRITE is aborted, or
left if its item already waits (R69). -/
def discardFrom (p : PacerId) : List HoldSlot → State → State
  | [], s => s
  | h :: rest, s =>
    if isPosted h.request then discardFrom p rest ((removeHead p s).bump .postedDrops)
    else if h.aborting then s
    else abortHead p h rest s

/-- DISCARD processing of pacer `p`'s queue, with the drain completion check that follows the falls of QLEN (R65, R69). -/
def processDiscard (p : PacerId) (s : State) : State := drainCheck p (discardFrom p (s.queue p) s)

end Sys2Proof.Machine
end

