-- ==== Sys2Proof/Machine/Admission.lean ====
section
/-!
DEFINITION. The Intake's admission of a traffic request (section 5.2).
-/

namespace Sys2Proof.Machine

/-- The address is a multiple of 32 and the byte range ends at or below the top of the address space: check 1
(R83, R84). -/
def addressFits (h : Header) : Bool :=
  decide (h.address.toNat % 32 = 0) && decide (h.address.toNat + h.beats * 32 ≤ 2 ^ 48)

/-- Some byte of the range lies within the management window: check 2 fails (R84). -/
def touchesWindow (wbase : BitVec 4) (h : Header) : Bool :=
  decide (h.address.toNat < windowBase wbase + windowBytes)
    && decide (windowBase wbase < h.address.toNat + h.beats * 32)

/-- The pacer named for a tag: its entry's, or DEFAULT_PACER if the entry is unbound (R77). -/
def lookup (s : State) (t : Tag) : Option PacerId :=
  match s.binding t with
  | some p => some p
  | none => s.defaultPacer

/-- The bindable states, STAGED, LIVE and PAUSED, which also admit arrivals (R78, R83). -/
def bindable (c : Pacer) : Bool :=
  match c.state with
  | .staged => true
  | .live => true
  | .paused => true
  | .vacant => false
  | .draining => false
  | .sweeping => false

/-- The outcome of the admission checks. -/
inductive Admission where
  | admitted (p : PacerId)
  | refused (cause : RefusalCause) (p : Option PacerId)
  deriving DecidableEq, Repr

/-- The admission checks of R83, in order. -/
def judgeArrival (s : State) (h : Header) : Admission :=
  if !addressFits h then .refused .malformed none
  else if touchesWindow s.pins.wbase h then .refused .window none
  else
    match lookup s h.tag with
    | none => .refused .unmapped none
    | some p =>
      if !bindable (s.pacer p) then .refused .retiring (some p)
      else if (s.pacer p).qlen < (s.pacer p).cfg.queueLimit.toNat then .admitted p
      else .refused .retry (some p)

/-- REFUSE_COUNT of the pacer that a refusal names rises, saturating (R85). -/
def countRefusal (p : Option PacerId) (s : State) : State :=
  match p with
  | some p => s.modPacer p (fun c => { c with refuseCount := saturatingSucc c.refuseCount })
  | none => s

/-- A refused request (R86): its counters rise; a READ or WRITE keeps its slot and gets a refusal item; a WRITE_P is
dropped, its slot freeing at once with one traffic credit returned. -/
def refuseArrival (pkt : Packet) (cause : RefusalCause) (p : Option PacerId) (s : State) : State :=
  let s := countRefusal p (s.bump cause.counter)
  if isPosted pkt then s.returnTraffic.bump .postedDrops else pushReply (.refusal pkt cause p) s

/-- The larger of two pacing times (R10, R49). -/
def laterTime (a b : PacingTime) : PacingTime := if a.toNat < b.toNat then b else a

/-- An admitted request joins its pacer's queue; a LIVE pacer whose queue was empty joins the calendar, if it is below its
flight cap, with DUE the larger of DUE and now (R48, R49, R87). -/
def enqueue (p : PacerId) (pkt : Packet) (s : State) : State :=
  let before := s.pacer p
  let s := joinQueue p pkt s
  if before.state = .live ∧ before.qlen = 0 ∧ before.flight < before.cfg.flightCap.toNat then
    joinCalendar p (s.modPacer p (fun c => { c with due := laterTime c.due s.clock.pacingTime }))
  else s

/-- A traffic request in its hold slot is taken through the admission checks (R82). -/
def intake (pkt : Packet) (s : State) : State :=
  match judgeArrival s pkt.header with
  | .admitted p => enqueue p pkt s
  | .refused cause p => refuseArrival pkt cause p s

end Sys2Proof.Machine
end

