-- ==== Sys2Proof/Machine/Outstanding.lean ====
section
/-!
DEFINITION. The Outstanding Table (chapter 06): allocation, target responses, deadlines and quarantine, and the two link
resets' effects on it.
-/

namespace Sys2Proof.Machine

/-- An entry becomes FREE and keeps PACER, TAG, UP_TXID, KIND and BEATS (R94). -/
def releaseEntry (e : Entry) : Entry :=
  { e with
    state := .free, deadline := none, closeCause := none, quarantineEnd := none, orphan := false,
    quarantineOnClose := false }

/-- The end of a period that starts now: the device time plus RESP_TIMEOUT (R95). -/
def State.periodEnd (s : State) : DeviceTime := s.clock.deviceTime + s.agent.respTimeout.toNat

/-- An entry given up on enters QUARANTINE, or becomes FREE if RESP_TIMEOUT is 0 (R103, R104, R107). -/
def quarantineEntry (s : State) (e : Entry) : Entry :=
  if s.agent.respTimeout = 0 then releaseEntry e
  else { e with state := .quarantine, deadline := none, closeCause := none, quarantineEnd := some s.periodEnd }

/-- The lowest-numbered FREE entry (R96). -/
def State.lowestFree (s : State) : Option EntryId := (List.finRange 128).find? (fun n => (s.entry n).state == .free)

/-- Entry `n` becomes BUSY for pacer `p`'s departing READ or WRITE, and FLIGHT rises by 1 (R96). -/
def allocate (p : PacerId) (n : EntryId) (req : Packet) (s : State) : State :=
  (s.setEntry n
    { state := .busy, pacer := p, tag := req.header.tag, upTxid := req.header.txid,
      kind := if isRead req then .read else .write, beats := req.header.beats,
      deadline := if s.agent.respTimeout = 0 then none else some s.periodEnd,
      orphan := false, closeCause := none, quarantineOnClose := false, quarantineEnd := none }).modPacer p
    (fun c => { c with flight := c.flight + 1 })

/-- FLIGHT of pacer `p` falls by 1 (R101, R103). -/
def lowerFlight (p : PacerId) (s : State) : State := s.modPacer p (fun c => { c with flight := c.flight - 1 })

/-- After FLIGHT of pacer `p` has fallen: it rejoins the calendar with its DUE unchanged if the terms now hold, and its
drain completion is checked (R15, R48, R49, R101). -/
def flightFell (p : PacerId) (s : State) : State := drainCheck p (settleCalendar p s)

/-! ### Target responses (R97) -/

/-- The judgement of a target response. -/
inductive ResponseFate where
  | stale
  | late (n : EntryId)
  | mismatch (n : EntryId)
  | matched (n : EntryId)
  deriving DecidableEq, Repr

/-- A response kind answers an entry's KIND (R97, Note 1). -/
def answers (pkt : Packet) (k : EntryKind) : Bool :=
  match k with
  | .read => pkt.kind? == some .readData
  | .write => pkt.kind? == some .writeDone

/-- The response fits the BUSY entry: the tag agrees, the kind answers KIND, and the beats of a READ_DATA are BEATS
(R97). DESIGN CHOICE: the beats of a WRITE_DONE are not compared, as Note 2 of R97 says, where row 4 of R110 would have a duplicate
WRITE_DONE of other beats be a MISMATCH (notes/assumptions/25.md). -/
def fitsEntry (pkt : Packet) (e : Entry) : Bool :=
  pkt.header.tag == e.tag && answers pkt e.kind && (pkt.kind? != some .readData || pkt.header.beats == e.beats)

/-- The fate of a target response, judged against the entry its TXID names (R97). -/
def responseFate (s : State) (pkt : Packet) : ResponseFate :=
  if h : pkt.header.txid.toNat < 128 then
    let n : EntryId := ⟨pkt.header.txid.toNat, h⟩
    match (s.entry n).state with
    | .free => .stale
    | .quarantine => if pkt.header.tag = (s.entry n).tag then .late n else .stale
    | .closing => if pkt.header.tag = (s.entry n).tag then .late n else .stale
    | .busy => if fitsEntry pkt (s.entry n) then .matched n else .mismatch n
  else .stale

/-- The effect of a LATE response on its entry (R99). -/
def lateEntry (e : Entry) : Entry :=
  match e.state with
  | .quarantine => releaseEntry e
  | .closing => { e with quarantineOnClose := false }
  | .free => e
  | .busy => e

/-- A matched response is placed in the Response Buffer with its TXID set to UP_TXID and everything else as it came
(R101, R115). -/
def forward (pkt : Packet) (upTxid : Txid) (s : State) : State :=
  { s with
    responses :=
      s.responses ++ [{ packet := { pkt with header := { pkt.header with txid := upTxid } }, origin := .target }] }

/-- A matched response of entry `n` (R101, R102): feedback, FLIGHT falls, the entry frees; it is forwarded, or if the entry
is ORPHAN discarded and its credit returned; then the drain and calendar checks. -/
def matchedResponse (pkt : Packet) (n : EntryId) (s : State) : State :=
  let e := s.entry n
  let s := countedResponse e.pacer (Pressure.ofCode pkt.header.pressure) s
  let s := (lowerFlight e.pacer s).setEntry n (releaseEntry e)
  let s := if e.orphan then (s.returnResponses 1).bump .orphanDiscards else forward pkt e.upTxid s
  flightFell e.pacer s

/-- A target response handed to the Outstanding Table (R97 to R102). -/
def takeResponse (pkt : Packet) (s : State) : State :=
  match responseFate s pkt with
  | .stale => (s.returnResponses 1).bump .stale
  | .late n => ((s.setEntry n (lateEntry (s.entry n))).returnResponses 1).bump .late
  | .mismatch n =>
    ((s.returnResponses 1).bump .mismatch).plainNotice (.mismatch (s.entry n).pacer pkt.header.tag)
  | .matched n => matchedResponse pkt n s

/-! ### Deadlines and quarantine (R103, R105) -/

/-- A BUSY entry's deadline is reached (R95, R103). -/
def deadlineReached (s : State) (e : Entry) : Bool :=
  e.state == .busy
    && (match e.deadline with
      | some d => decide (d ≤ s.clock.deviceTime)
      | none => false)

/-- Entry `n` is given up on at its expiry: CLOSING with a TIMEOUT item, or if ORPHAN straight to quarantine
(R103, steps 5 and 6). -/
def expireEntry (n : EntryId) (s : State) : State :=
  let e := s.entry n
  if e.orphan then s.setEntry n (quarantineEntry s e)
  else
    pushReply (.givenUp .timeout n)
      (s.setEntry n
        { e with state := .closing, closeCause := some .timeout, quarantineOnClose := true, deadline := none })

/-- The expiry event of entry `n` (R103), in the order of its steps. -/
def expire (n : EntryId) (s : State) : State :=
  let e := s.entry n
  let s := timeoutHalt e.pacer (lowerFlight e.pacer s)
  let s := (s.bump .timeouts).plainNotice (.respTimeout e.pacer e.tag e.upTxid)
  flightFell e.pacer (expireEntry n s)

/-- A QUARANTINE entry's end is reached (R95, R105). -/
def quarantineReached (s : State) (e : Entry) : Bool :=
  e.state == .quarantine
    && (match e.quarantineEnd with
      | some d => decide (d ≤ s.clock.deviceTime)
      | none => false)

/-! ### Link resets (R106, R107) -/

/-- An entry after an I-port link reset (R107). -/
def entryAfterResetI (s : State) (e : Entry) : Entry :=
  match e.state with
  | .busy => { e with orphan := true }
  | .closing =>
    if e.closeCause = some .timeout ∧ e.quarantineOnClose then quarantineEntry s e else releaseEntry e
  | .quarantine => e
  | .free => e

/-- An entry after a T-port link reset (R106). -/
def entryAfterResetT (e : Entry) : Entry :=
  match e.state with
  | .busy =>
    if e.orphan then releaseEntry e
    else
      { e with state := .closing, closeCause := some .linkLost, quarantineOnClose := false, deadline := none }
  | .quarantine => releaseEntry e
  | .closing => { e with quarantineOnClose := false }
  | .free => e

/-- The entries that a T-port link reset answers LINK_LOST, in increasing number (R106). -/
def lostEntries (s : State) : List EntryId :=
  (List.finRange 128).filter (fun n => (s.entry n).state == .busy && !(s.entry n).orphan)

/-! ### The events of an entry -/

/-- EXPIRY (R103) of entry `n`; nothing while its deadline has not been reached. -/
def execExpiry (n : EntryId) (s : State) : Host.Outcome State Fault Refusal :=
  .next (if deadlineReached s (s.entry n) then expire n s else s)

/-- QUARANTINE_END (R105) of entry `n`; nothing while its end has not been reached. -/
def execQuarantineEnd (n : EntryId) (s : State) : Host.Outcome State Fault Refusal :=
  .next (if quarantineReached s (s.entry n) then s.setEntry n (releaseEntry (s.entry n)) else s)

end Sys2Proof.Machine
end

