-- ==== Sys2Proof/Machine/Departures.lean ====
section
/-!
DEFINITION. The pacing clock (R44), the arbiter (R50 to R53) and the departure event (R54 to R57).
-/

namespace Sys2Proof.Machine

/-! ### The clock -/

/-- `n` units of 4 ns pass: the device time rises by the whole microseconds they complete, whatever TICK_LEN is (R95). -/
def Clock.pass (c : Clock) (n : Nat) : Clock :=
  { c with
    deviceTime := c.deviceTime + (c.unitsPast + n) / Config.unitsPerMicro,
    unitsPast := (c.unitsPast + n) % Config.unitsPerMicro }

/-- The units that the pacing tick in progress still has to run. -/
def Clock.tickLeft (c : Clock) : Nat := c.tickSpan - c.tickPast

/-- The end of the pacing tick in progress: what is left of it passes, the pacing time rises by 1 (R44), and the next tick has
the present TICK_LEN (R45; notes/assumptions/3.md). -/
def Clock.tick (c : Clock) (tickLen : BitVec 16) : Clock :=
  { c.pass c.tickLeft with pacingTime := c.pacingTime + 1, tickSpan := tickLen.toNat, tickPast := 0 }

/-- The reference clock runs on to the next whole microsecond or to the end of the pacing tick, whichever is first; at the end of
the tick the pacing time rises (R44, R95). -/
def Clock.run (c : Clock) (tickLen : BitVec 16) : Clock :=
  let n := Config.unitsPerMicro - c.unitsPast
  if n < c.tickLeft then { c.pass n with tickPast := c.tickPast + n } else c.tick tickLen

/-- PACING_TICK (R44): the end of the tick in progress has come. Neither time counts before the release of RESET_N. -/
def execPacingTick (s : State) : Host.Outcome State Fault Refusal :=
  .next (if s.pins.resetN then { s with clock := s.clock.tick s.agent.tickLen } else s)

/-! ### The arbiter -/

/-- Link port T is UP and holds a request credit (R51, R53). -/
def State.laneOpen (s : State) : Bool := decide (s.linkT.state = .up) && decide (0 < s.creditsT.heldReq)

/-- The head request of pacer `p` can depart now (R51). -/
def canDepart (s : State) (p : PacerId) : Bool :=
  decide ((s.pacer p).due.toNat ≤ s.clock.pacingTime.toNat) && s.laneOpen
    && (match s.queue p with
      | [] => false
      | h :: _ => isPosted h.request || s.lowestFree.isSome)

/-- Pacer `p` is chosen before pacer `q`: smaller DUE, then higher PRIORITY, then lower number (R52). -/
def ranksBefore (s : State) (p q : PacerId) : Bool :=
  let a := s.pacer p
  let b := s.pacer q
  decide (a.due.toNat < b.due.toNat)
    || (decide (a.due = b.due)
      && (decide (b.cfg.priority.toNat < a.cfg.priority.toNat)
        || (decide (a.cfg.priority = b.cfg.priority) && decide (p < q))))

/-- The first of some pacers in the order of R52. -/
def bestOf (s : State) : List PacerId → Option PacerId
  | [] => none
  | p :: rest =>
    match bestOf s rest with
    | none => some p
    | some q => if ranksBefore s q p then some q else some p

/-- The winner among the calendar's pacers whose heads can depart now (R52). -/
def winner (s : State) : Option PacerId := bestOf s (s.calendar.filter (canDepart s))

/-! ### The departure event -/

/-- The charge per beat: SPACING, or DRAIN_SPACE in DRAINING (R56). -/
def chargePerBeat (c : Pacer) : Nat := if c.state = .draining then c.cfg.drainSpace.toNat else c.spacing.toNat

/-- The next DUE of a pacer that departs `beats` beats at pacing time `now` (R56). -/
def nextDue (now : PacingTime) (beats : Nat) (c : Pacer) : PacingTime :=
  if c.state = .draining ∧ c.cfg.drainSpace = 0 then now
  else
    let basis := if now.toNat - c.due.toNat ≤ 16 * chargePerBeat c then c.due else now
    basis + BitVec.ofNat 64 (beats * chargePerBeat c)

/-- The departure recorded on its pacer: DEMAND, LAST_DEPART, the tallies and the next DUE (R55, R56). -/
def recordDeparture (now : PacingTime) (beats : Nat) (c : Pacer) : Pacer :=
  { c with
    demand := if c.state = .live ∧ 0 < c.qlen then true else c.demand,
    lastDepart := now,
    departCount := c.departCount + 1,
    beatCount := c.beatCount + BitVec.ofNat 32 beats,
    due := nextDue now beats c }

/-- The departing request goes to Link port T: a READ or WRITE in the lowest-numbered FREE entry, under that entry's number;
a WRITE_P unchanged, in no entry (R54, step 3). -/
def sendRequest (p : PacerId) (req : Packet) (s : State) : State :=
  if isPosted req then s.handT req
  else
    match s.lowestFree with
    | some n => (allocate p n req s).handT { req with header := { req.header with txid := BitVec.ofNat 8 n.val } }
    | none => s

/-- One T-port request credit is consumed (R54, step 4). -/
def consumeRequestCredit (s : State) : State :=
  { s with creditsT := { s.creditsT with heldReq := s.creditsT.heldReq - 1 } }

/-- The departure event for pacer `p` with this head request (R54 to R57). -/
def depart (p : PacerId) (req : Packet) (s : State) : State :=
  let s := if (s.pacer p).state = .live then idleRule p s else s
  let s := consumeRequestCredit (sendRequest p req (removeHead p s))
  let s := s.modPacer p (recordDeparture s.clock.pacingTime req.header.beats)
  drainCheck p (settleCalendar p s)

/-- DEPARTURE (R54): the arbiter's look; nothing while no head can depart (R50). -/
def execDeparture (s : State) : Host.Outcome State Fault Refusal :=
  .next (match winner s with
    | some p =>
      match s.queue p with
      | h :: _ => depart p h.request s
      | [] => s
    | none => s)

end Sys2Proof.Machine
end

