-- ==== Sys2Proof/Machine/Commands.lean ====
section
/-!
DEFINITION. The effects of the pacer commands (section 1.3, R6 to R13) and of configuration writes (section 1.5).
A command answers the state it leaves and its outcome.
-/

namespace Sys2Proof.Machine

/-- The context STAGE leaves (R7). -/
def stagedPacer (c : Pacer) : Pacer :=
  { c with
    state := .staged, spacing := c.cfg.spaceStart, due := 0, lastDepart := 0, flight := 0, qlen := 0, winCount := 0,
    winMarks := 0, departCount := 0, beatCount := 0, refuseCount := 0, demand := false, slow := false,
    crossPending := false }

/-- STAGE of pacer `p` (R5, R7). -/
def commandStage (p : PacerId) (s : State) : State × CommandOutcome :=
  if (s.pacer p).state = .vacant then
    if legal (s.pacer p).cfg then (s.modPacer p stagedPacer, .accepted) else (s, .badParam)
  else (s, .refusedState)

/-- The context START leaves before its crossing check (R8, steps 1 to 3). -/
def startedPacer (now : PacingTime) (c : Pacer) : Pacer :=
  windowRestart { c with state := .live, spacing := c.cfg.spaceStart, due := now, lastDepart := now }

/-- START of pacer `p` (R8). -/
def commandStart (p : PacerId) (s : State) : State × CommandOutcome :=
  if (s.pacer p).state = .staged then
    (settleCalendar p (crossingCheck p (s.modPacer p (startedPacer s.clock.pacingTime))), .accepted)
  else (s, .refusedState)

/-- PAUSE of pacer `p` (R9). -/
def commandPause (p : PacerId) (s : State) : State × CommandOutcome :=
  match (s.pacer p).state with
  | .live => (leaveCalendar p (s.modPacer p (fun c => { c with state := .paused })), .accepted)
  | .paused => (s, .accepted)
  | .vacant => (s, .refusedState)
  | .staged => (s, .refusedState)
  | .draining => (s, .refusedState)
  | .sweeping => (s, .refusedState)

/-- The context RESUME leaves (R10). -/
def resumedPacer (now : PacingTime) (c : Pacer) : Pacer :=
  { c with state := .live, spacing := clampSpacing c.cfg c.spacing, due := laterTime c.due now }

/-- RESUME of pacer `p` (R10). -/
def commandResume (p : PacerId) (s : State) : State × CommandOutcome :=
  if (s.pacer p).state = .paused then
    (settleCalendar p (s.modPacer p (resumedPacer s.clock.pacingTime)), .accepted)
  else (s, .refusedState)

/-- The context enters DRAINING (R12). -/
def drainingPacer (m : RetireMode) (c : Pacer) : Pacer := { c with state := .draining, retireMode := some m }

/-- RETIRE_FLUSH of pacer `p` (R12). -/
def commandRetireFlush (p : PacerId) (s : State) : State × CommandOutcome :=
  if bindable (s.pacer p) then
    (drainCheck p (settleCalendar p ((withdrawCrossing p s).modPacer p (drainingPacer .flush))), .accepted)
  else (s, .refusedState)

/-- RETIRE_DISCARD of pacer `p`, from a bindable state (R12) or from DRAINING with FLUSH (R13). -/
def commandRetireDiscard (p : PacerId) (s : State) : State × CommandOutcome :=
  if bindable (s.pacer p) then
    (processDiscard p (leaveCalendar p ((withdrawCrossing p s).modPacer p (drainingPacer .discard))), .accepted)
  else if (s.pacer p).state = .draining ∧ (s.pacer p).retireMode = some .flush then
    (processDiscard p (leaveCalendar p (s.modPacer p (drainingPacer .discard))), .accepted)
  else (s, .refusedState)

/-- SET_SPACING of pacer `p` (R11). -/
def commandSetSpacing (p : PacerId) (v : BitVec 16) (s : State) : State × CommandOutcome :=
  match (s.pacer p).state with
  | .staged => (s.modPacer p (fun c => { c with spacing := clampSpacing c.cfg v }), .accepted)
  | .live =>
    (crossingCheck p (s.modPacer p (fun c => windowRestart { c with spacing := clampSpacing c.cfg v })), .accepted)
  | .paused =>
    (crossingCheck p (s.modPacer p (fun c => windowRestart { c with spacing := clampSpacing c.cfg v })), .accepted)
  | .vacant => (s, .refusedState)
  | .draining => (s, .refusedState)
  | .sweeping => (s, .refusedState)

/-- A pacer-naming command acts on pacer `p` (R6). REARM_ALERT names no pacer and does not come here. -/
def pacerCommand (k : Command) (p : PacerId) (operand : BitVec 16) (s : State) : State × CommandOutcome :=
  match k with
  | .stage => commandStage p s
  | .start => commandStart p s
  | .pause => commandPause p s
  | .resume => commandResume p s
  | .retireFlush => commandRetireFlush p s
  | .retireDiscard => commandRetireDiscard p s
  | .setSpacing => commandSetSpacing p operand s
  | .rearmAlert => (rearmAlert s, .accepted)

/-- A command write judged (R154). -/
def judgeCommand (code pacer : BitVec 8) (operand : BitVec 16) (s : State) : State × CommandOutcome :=
  match Command.ofCode code with
  | none => (s, .badCommand)
  | some .rearmAlert => (rearmAlert s, .accepted)
  | some k =>
    if h : pacer.toNat < 128 then pacerCommand k ⟨pacer.toNat, h⟩ operand s else (s, .badPacer)

/-- A write of the command word (R154, R155): the command is judged, its effects are made, and the last-command record takes
it with its outcome. -/
def writeCommand (v : MgmtWord) (s : State) : State × CommandOutcome :=
  let code : BitVec 8 := v.extractLsb' 0 8
  let pacer : BitVec 8 := v.extractLsb' 8 8
  let operand : BitVec 16 := v.extractLsb' 16 16
  let r := judgeCommand code pacer operand s
  ({ r.1 with
      agent :=
        { r.1.agent with
          lastCommand := { valid := true, code, pacer, operand, outcome := r.2.code } } },
    r.2)

/-! ### Configuration writes (R17 to R19) -/

/-- The fields of the word would stand below the occupancy they limit: FLIGHT_CAP below FLIGHT, QUEUE_LIMIT below QLEN, or
WINDOW no larger than WIN_COUNT (R18, test 2). -/
def underOccupied (c : Pacer) (new : PacerConfig) (w : Fin 7) : Bool :=
  if w = 3 then decide (new.window.toNat ≤ c.winCount)
  else if w = 6 then decide (new.flightCap.toNat < c.flight) || decide (new.queueLimit.toNat < c.qlen)
  else false

/-- The spacing after an accepted write of word `w` to a STAGED or PAUSED pacer (R19). -/
def spacingAfterWrite (c : Pacer) (new : PacerConfig) (w : Fin 7) : BitVec 16 :=
  if w = 0 ∨ w = 1 then clampSpacing new c.spacing
  else if w = 2 ∧ c.state = .staged then new.spaceStart
  else c.spacing

/-- The crossing check follows an accepted write to a PAUSED pacer that moved SPACING or was of SLOW_AT and SLOW_BAND
(R19, R35, R175). -/
def checkAfterWrite (c : Pacer) (new : PacerConfig) (w : Fin 7) : Bool :=
  c.state == .paused && (decide (w = 4) || decide (spacingAfterWrite c new w ≠ c.spacing))

/-- A write of configuration word `w` of pacer `p`, with its status (R17 to R19). -/
def writeConfig (p : PacerId) (w : Fin 7) (v : MgmtWord) (s : State) : State × BitVec 5 :=
  let c := s.pacer p
  let new := configWithWord c.cfg w v
  let stored := s.setPacer p { c with cfg := new, spacing := spacingAfterWrite c new w }
  match c.state with
  | .vacant => (s.setPacer p { c with cfg := new }, statusOk)
  | .live => (s, statusMgmtState)
  | .draining => (s, statusMgmtState)
  | .sweeping => (s, statusMgmtState)
  | .staged =>
    if !legal new then (s, statusMgmtParam)
    else if underOccupied c new w then (s, statusMgmtState)
    else (stored, statusOk)
  | .paused =>
    if !legal new then (s, statusMgmtParam)
    else if underOccupied c new w then (s, statusMgmtState)
    else (if checkAfterWrite c new w then crossingCheck p stored else stored, statusOk)

end Sys2Proof.Machine
end

