-- ==== Sys2Proof/Machine/Management.lean ====
section
/-!
DEFINITION. The Management Agent (chapter 09): the checks of R145, the reads and writes of the window's words, and the
taking of requests.
-/

namespace Sys2Proof.Machine

/-- What the agent answers: status, detail byte and the beat of a READ. -/
structure Answer where
  status : BitVec 5
  detail : BitVec 8
  beat : Beat
  deriving DecidableEq, Repr

/-- An answer with a status alone: detail 0 and a beat of zero bytes (R145). -/
def statusAnswer (st : BitVec 5) : Answer := { status := st, detail := 0, beat := 0 }

/-! ### Pop and peek (R134, R135) -/

/-- The event of a pop (R134): the oldest record leaves and OVERFLOW clears, its pacer's CROSS_PENDING with it for a
crossing; or on an empty queue OVERFLOW clears and ALERT_ARMED becomes set. -/
def popNotice (s : State) : State :=
  match s.notices.records with
  | [] => { s with notices := { s.notices with overflow := false, alertArmed := true } }
  | r :: rest =>
    let s := { s with notices := { s.notices with records := rest, overflow := false } }
    match r.body.crossingOf with
    | some p => s.modPacer p (fun c => { c with crossPending := false })
    | none => s

/-- The beat that answers a pop: the oldest record, the records left after its removal, and OVERFLOW as it stood
(R134, R177). -/
def popBeat (s : State) : Beat :=
  noticeBeat s.notices.records.head? (s.notices.records.length - 1) s.notices.overflow

/-- The beat that answers a peek: the oldest record, the records in the queue, and OVERFLOW (R135, R177). -/
def peekBeat (s : State) : Beat := noticeBeat s.notices.records.head? s.notices.records.length s.notices.overflow

/-! ### Words -/

/-- The beat that an accepted READ of a word returns (R149). -/
def readBeat (s : State) : WindowWord → Beat
  | .identity => wordBeat identityWord
  | .tickLen => wordBeat (place s.agent.tickLen 0)
  | .respTimeout => wordBeat (place s.agent.respTimeout 0)
  | .enables => wordBeat (place s.agent.enables 0)
  | .defaultPacer => wordBeat (bindingWord s.defaultPacer)
  | .command => wordBeat (lastCommandWord s.agent.lastCommand)
  | .pop => popBeat s
  | .peek => peekBeat s
  | .manager e => wordBeat (managerWord (s.manager e))
  | .counter c => wordBeat (place (tableGet s.agent.counters c) 0)
  | .config p w => wordBeat (configWord (s.pacer p).cfg w)
  | .dynamic p w => wordBeat (dynamicWord (s.pacer p) w)
  | .tagMap t => wordBeat (bindingWord (s.binding t))
  | .outstanding n => wordBeat (entryWord (s.entry n))

/-- The state after an accepted READ of a word: only a pop changes anything (R149). -/
def afterRead (s : State) : WindowWord → State
  | .pop => popNotice s
  | .identity => s
  | .tickLen => s
  | .respTimeout => s
  | .enables => s
  | .defaultPacer => s
  | .command => s
  | .peek => s
  | .manager _ => s
  | .counter _ => s
  | .config _ _ => s
  | .dynamic _ _ => s
  | .tagMap _ => s
  | .outstanding _ => s

/-- Some pacer is LIVE or DRAINING (R45). -/
def anyPaced (s : State) : Bool :=
  (List.finRange 128).any (fun p => (s.pacer p).state == .live || (s.pacer p).state == .draining)

/-- A write of TICK_LEN (R45). -/
def writeTickLen (v : MgmtWord) (s : State) : State × BitVec 5 :=
  let x : BitVec 16 := v.extractLsb' 0 16
  if anyPaced s then (s, statusMgmtState)
  else if 5 ≤ x.toNat ∧ x.toNat ≤ 1280 then ({ s with agent := { s.agent with tickLen := x } }, statusOk)
  else (s, statusMgmtParam)

/-- A write of DEFAULT_PACER (R79). -/
def writeDefaultPacer (v : MgmtWord) (s : State) : State × BitVec 5 :=
  match bindRequest v with
  | .none => ({ s with defaultPacer := none }, statusOk)
  | .badPacer => (s, statusMgmtParam)
  | .pacer p =>
    if bindable (s.pacer p) then ({ s with defaultPacer := some p }, statusOk) else (s, statusMgmtState)

/-- A write of the Tag Map entry of `t` (R78). -/
def writeTagMap (t : Tag) (v : MgmtWord) (s : State) : State × BitVec 5 :=
  match bindRequest v with
  | .none => (s.setBinding t none, statusOk)
  | .badPacer => (s, statusMgmtParam)
  | .pacer p =>
    if bindable (s.pacer p) then (s.setBinding t (some p), statusOk) else (s, statusMgmtState)

/-- A DENIED request of this tag: the counter rises and a DENIED notice is handed over (R146). -/
def denyAccess (tag : Tag) (s : State) : State := (s.bump .denied).plainNotice (.denied tag)

/-- A write of manager list entry `e` by this tag (R147). -/
def writeManager (tag : Tag) (e : Fin 4) (v : MgmtWord) (s : State) : State × BitVec 5 :=
  if tag ≠ (s.manager 0).tag then (denyAccess tag s, statusDenied)
  else if e = 0 ∧ !(managerOfWord v).valid then (s, statusMgmtParam)
  else (s.setManager e (managerOfWord v), statusOk)

/-- A status as an answer to a WRITE. -/
def withStatus (r : State × BitVec 5) : State × Answer := (r.1, statusAnswer r.2)

/-- A WRITE of a word by this tag, checks 6 and 7 of R145 and the word's own rule (R150). -/
def writeWord (tag : Tag) (w : WindowWord) (v : MgmtWord) (s : State) : State × Answer :=
  match w with
  | .identity => (s, statusAnswer statusMgmtReadonly)
  | .tickLen => withStatus (writeTickLen v s)
  | .respTimeout =>
    ({ s with agent := { s.agent with respTimeout := v.extractLsb' 0 16 } }, statusAnswer statusOk)
  | .enables => (writeEnables (v.extractLsb' 0 8) s, statusAnswer statusOk)
  | .defaultPacer => withStatus (writeDefaultPacer v s)
  | .command =>
    let r := writeCommand v s
    (r.1, { status := statusOk, detail := r.2.code, beat := 0 })
  | .pop => (s, statusAnswer statusMgmtReadonly)
  | .peek => (s, statusAnswer statusMgmtReadonly)
  | .manager e => withStatus (writeManager tag e v s)
  | .counter c => (s.setCounterAt c 0, statusAnswer statusOk)
  | .config p w => withStatus (writeConfig p w v s)
  | .dynamic _ _ => (s, statusAnswer statusMgmtReadonly)
  | .tagMap t => withStatus (writeTagMap t v s)
  | .outstanding _ => (s, statusAnswer statusMgmtReadonly)

/-! ### Judging and taking a request -/

/-- The access check (R146): a valid manager entry holds the tag. -/
def isManager (s : State) (tag : Tag) : Bool :=
  (List.finRange 4).any (fun e => (s.manager e).valid && (s.manager e).tag == tag)

/-- The word that a request with this address reaches if it passes checks 1 to 5 of R145, or the status of the check
that fails; check 4 is told apart because it also makes its own effects (R146). -/
inductive Reach where
  | word (w : WindowWord)
  | refused (status : BitVec 5)
  | denied
  deriving DecidableEq, Repr

/-- Checks 1 to 5 of R145, in order. -/
def reach (s : State) (h : Header) : Reach :=
  if h.beats ≠ 1 then .refused statusMgmtMalformed
  else if h.address.toNat < windowBase s.pins.wbase ∨ windowBase s.pins.wbase + windowBytes ≤ h.address.toNat then
    .refused statusMgmtRange
  else if h.address.toNat % 8 ≠ 0 then .refused statusMgmtMalformed
  else if !isManager s h.tag then .denied
  else
    match wordAt (h.address.toNat - windowBase s.pins.wbase) with
    | some w => .word w
    | none => .refused statusMgmtRange

/-- The word a WRITE carries, in bytes 0..7 of its one beat (R141). -/
def writtenWord (pkt : Packet) : MgmtWord := beatWord (pkt.data.headD 0)

/-- A management READ or WRITE judged and its effects made (R143, R145). -/
def judgeRequest (pkt : Packet) (s : State) : State × Answer :=
  match reach s pkt.header with
  | .refused st => (s, statusAnswer st)
  | .denied => (denyAccess pkt.header.tag s, statusAnswer statusDenied)
  | .word w =>
    if isRead pkt then (afterRead s w, { status := statusOk, detail := 0, beat := readBeat s w })
    else writeWord pkt.header.tag w (writtenWord pkt) s

/-- A READ or WRITE at the head of the Management Queue is taken (R143): judged, its effects made, its item put at the tail of
the Reply List behind any item they made, and the agent ANSWERING. -/
def takeRequest (pkt : Packet) (s : State) : State :=
  let r := judgeRequest pkt s
  let s := { r.1 with replies := r.1.replies ++ [ReplyItem.mgmt r.2.status r.2.detail r.2.beat] }
  { s with agent := { s.agent with state := .answering } }

/-- The head of the Management Queue leaves it, and one management credit is returned (R142). Nothing happens on an empty
queue. -/
def freeMgmtHead (s : State) : State :=
  match s.mgmtQueue with
  | [] => s
  | _ :: rest => ({ s with mgmtQueue := rest }).returnMgmt

/-- A management WRITE_P at the head is dropped at its taking (R144). -/
def dropMgmtPosted (s : State) : State := (freeMgmtHead s).bump .mgmtPostedDrops

/-- A READY agent takes the waiting requests: posted writes are dropped one after another, and the first READ or WRITE is
taken (R143, R144). -/
def agentRun : List Packet → State → State
  | [], s => s
  | r :: rest, s => if isPosted r then agentRun rest (dropMgmtPosted s) else takeRequest r s

/-- The agent looks at its queue: it takes the head if it is READY (R143). -/
def agentLook (s : State) : State :=
  match s.agent.state with
  | .ready => agentRun s.mgmtQueue s
  | .answering => s

/-- A management request that arrived under credit joins the tail of the Management Queue, and is taken in the same event
if the agent is READY (R82, R142, R143). -/
def mgmtJoin (pkt : Packet) (s : State) : State := agentLook { s with mgmtQueue := s.mgmtQueue ++ [pkt] }

end Sys2Proof.Machine
end

