-- ==== Sys2Proof/Machine/Responses.lean ====
section
/-!
DEFINITION. The response path (chapter 07): the placement of reply items and the sending of responses.
-/

namespace Sys2Proof.Machine

/-- The detail byte that names a pacer, 0 when there is none (R121). -/
def pacerDetail (p : Option PacerId) : BitVec 8 :=
  match p with
  | some p => BitVec.ofNat 8 p.val
  | none => 0

/-- The response composed from an item and the resource it holds (R121), or none if the resource is not there, which no
run reaches. -/
def composeReply (s : State) : ReplyItem → Option Packet
  | .refusal req cause p =>
    some (bridgeResponse (isRead req) classTraffic req.header.tag req.header.txid cause.status (pacerDetail p) 0)
  | .aborted p =>
    match s.queue p with
    | h :: _ =>
      some (bridgeResponse (isRead h.request) classTraffic h.request.header.tag h.request.header.txid statusAborted
        (pacerDetail (some p)) 0)
    | [] => none
  | .givenUp cause n =>
    let e := s.entry n
    some (bridgeResponse (e.kind == .read) classTraffic e.tag e.upTxid cause.status (pacerDetail (some e.pacer)) 0)
  | .mgmt status detail beat =>
    match s.mgmtQueue with
    | r :: _ => some (bridgeResponse (isRead r) classMgmt r.header.tag r.header.txid status detail beat)
    | [] => none

/-- A CLOSING entry after the placement of its reply (R104). -/
def entryAfterPlacement (s : State) (e : Entry) : Entry :=
  if e.quarantineOnClose then quarantineEntry s e else releaseEntry e

/-- The placement of an ABORTED item (R70): the head leaves, the ABORTED counter rises, the drain is checked, and a pacer
still DRAINING has its new head processed. -/
def releaseAborted (p : PacerId) (s : State) : State :=
  let s := drainCheck p ((removeHead p s).bump .aborted)
  if (s.pacer p).state = .draining then processDiscard p s else s

/-- The placement of a management item: the entry frees with its credit, the agent becomes READY, and takes the next
waiting request in the same event (R120, R143). -/
def releaseMgmt (s : State) : State :=
  let s := freeMgmtHead s
  agentLook { s with agent := { s.agent with state := .ready } }

/-- The release of a placed item's resource (R120). -/
def releaseResource (s : State) : ReplyItem → State
  | .refusal _ _ _ => s.returnTraffic
  | .aborted p => releaseAborted p s
  | .givenUp _ n => s.setEntry n (entryAfterPlacement s (s.entry n))
  | .mgmt _ _ _ => releaseMgmt s

/-- The placement of the oldest item (R119): its response enters the tail of the Response Buffer, it leaves the list, and
its resource is released. -/
def placeItem (i : ReplyItem) (rest : List ReplyItem) (pkt : Packet) (s : State) : State :=
  releaseResource
    { s with responses := s.responses ++ [{ packet := pkt, origin := .bridge }], replies := rest } i

/-- REPLY_PLACEMENT (R119); nothing while the list is empty or the bridge-made share is full. -/
def execReplyPlacement (s : State) : Host.Outcome State Fault Refusal :=
  .next (match s.replies with
    | [] => s
    | i :: rest =>
      if s.bridgeCount < Config.bridgeShare then
        match composeReply s i with
        | some pkt => placeItem i rest pkt s
        | none => s
      else s)

/-- The oldest Response Buffer entry is sent (R116): a credit is consumed, the entry leaves for Link port I, and an entry of
target origin returns its T-port credit. -/
def sendResponse (r : BufferedResponse) (rest : List BufferedResponse) (s : State) : State :=
  let s :=
    { s with creditsI := { s.creditsI with heldResp := s.creditsI.heldResp - 1 }, responses := rest }.handI r.packet
  if r.fromTarget then s.returnResponses 1 else s

/-- RESPONSE_SEND (R116); nothing while the buffer is empty, Link port I is not UP or it holds no response credit. -/
def execResponseSend (s : State) : Host.Outcome State Fault Refusal :=
  .next (match s.responses with
    | [] => s
    | r :: rest =>
      if s.linkI.state = .up ∧ 0 < s.creditsI.heldResp then sendResponse r rest s else s)

end Sys2Proof.Machine
end

