-- ==== Sys2Proof/Machine/LinkPorts.lean ====
section
/-!
DEFINITION. The link ports (chapter 10): INIT and credit exchange, faults, link resets, and the arrival of packets.
-/

namespace Sys2Proof.Machine

/-- The link of a port. -/
def State.link (s : State) : PortId → Link
  | .i => s.linkI
  | .t => s.linkT

/-- The state with the link of a port replaced. -/
def State.setLink (s : State) (p : PortId) (l : Link) : State :=
  match p with
  | .i => { s with linkI := l }
  | .t => { s with linkT := l }

/-- The port changes state. -/
def State.setLinkState (s : State) (p : PortId) (x : LinkState) : State := s.setLink p { s.link p with state := x }

/-- A packet is handed to a port (R166). -/
def State.hand (s : State) (p : PortId) (pkt : Packet) : State :=
  match p with
  | .i => s.handI pkt
  | .t => s.handT pkt

/-! ### INIT (R160) -/

/-- The resend timer is set 1000 µs ahead (R160). -/
def State.startResend (s : State) (p : PortId) : State :=
  s.setLink p { s.link p with resend := some (s.clock.deviceTime + Config.resendMicros) }

/-- Link port I sends an INIT: the FREE slots and the free Management Queue entries are granted, the RETURN counts go to 0
and the resend timer starts (R160). -/
def sendInitI (s : State) : State :=
  let traffic := s.freeSlots
  let mgmt := Config.mgmtEntries - s.mgmtQueue.length
  let s :=
    { s with
      creditsI :=
        { s.creditsI with givenTraffic := traffic, givenMgmt := mgmt, returnTraffic := 0, returnMgmt := 0 } }
  (s.handI (initPacket (BitVec.ofNat 9 traffic) (BitVec.ofNat 3 mgmt) 0 0)).startResend .i

/-- Link port T sends an INIT: the free target share of the Response Buffer is granted (R117, R160). -/
def sendInitT (s : State) : State :=
  let resp := Config.targetShare - s.targetCount
  let s := { s with creditsT := { s.creditsT with givenResp := resp, returnResp := 0 } }
  (s.handT (initPacket 0 0 (BitVec.ofNat 8 resp) 0)).startResend .t

/-- A port sends an INIT (R160). -/
def sendInit (p : PortId) (s : State) : State :=
  match p with
  | .i => sendInitI s
  | .t => sendInitT s

/-- A port enters INIT_WAIT and sends an INIT (R160). -/
def enterInitWait (p : PortId) (s : State) : State := sendInit p (s.setLinkState p .initWait)

/-! ### CREDIT packets sent (R165) -/

/-- What one CREDIT packet carries of a RETURN count (R165). -/
def creditShare (n : Nat) : Nat := min n Config.creditPacketMax

/-- One CREDIT packet of the traffic class goes to Link port I, and RETURN_TRAFFIC falls by what it carries. -/
def sendTrafficCredit (s : State) : State :=
  let k := creditShare s.creditsI.returnTraffic
  { s with creditsI := { s.creditsI with returnTraffic := s.creditsI.returnTraffic - k } }.handI
    (creditPacket creditTraffic (BitVec.ofNat 8 k))

/-- One CREDIT packet of the management class goes to Link port I. -/
def sendMgmtCredit (s : State) : State :=
  let k := creditShare s.creditsI.returnMgmt
  { s with creditsI := { s.creditsI with returnMgmt := s.creditsI.returnMgmt - k } }.handI
    (creditPacket creditMgmt (BitVec.ofNat 8 k))

/-- One CREDIT packet of the response class goes to Link port T. -/
def sendResponseCredit (s : State) : State :=
  let k := creditShare s.creditsT.returnResp
  { s with creditsT := { s.creditsT with returnResp := s.creditsT.returnResp - k } }.handT
    (creditPacket creditResponse (BitVec.ofNat 8 k))

/-- One CREDIT packet is sent if the port is UP and the RETURN count is above 0 (R165). -/
def creditSendOnce (which : CreditReturn) (s : State) : State :=
  match which with
  | .traffic => if s.linkI.state = .up ∧ 0 < s.creditsI.returnTraffic then sendTrafficCredit s else s
  | .mgmt => if s.linkI.state = .up ∧ 0 < s.creditsI.returnMgmt then sendMgmtCredit s else s
  | .response => if s.linkT.state = .up ∧ 0 < s.creditsT.returnResp then sendResponseCredit s else s

/-- CREDIT packets are sent until the RETURN count is 0 (R162, R165), `fuel` of them at most. -/
def creditSendAll (which : CreditReturn) : Nat → State → State
  | 0, s => s
  | fuel + 1, s => creditSendAll which fuel (creditSendOnce which s)

/-- The CREDIT packets that carry `n` returns: one for each full 255 and one for the rest. -/
def creditPackets (n : Nat) : Nat := n / Config.creditPacketMax + 1

/-- The returns of a port that comes UP are sent (R162, step 4). -/
def sendReturns (p : PortId) (s : State) : State :=
  match p with
  | .i =>
    let s := creditSendAll .traffic (creditPackets s.creditsI.returnTraffic) s
    creditSendAll .mgmt (creditPackets s.creditsI.returnMgmt) s
  | .t => creditSendAll .response (creditPackets s.creditsT.returnResp) s

/-! ### Bring-up (R162) -/

/-- The grant that the partner must give on a port: response credits from the initiator side, request credits from the
target (R162, R167). -/
def partnerGrant (p : PortId) (h : Header) : Nat :=
  match p with
  | .i => h.respGrant.toNat
  | .t => h.reqGrant.toNat

/-- The partner's grant is recorded (R162, step 1). -/
def recordGrant (p : PortId) (n : Nat) (s : State) : State :=
  match p with
  | .i => { s with creditsI := { s.creditsI with heldResp := n, grantResp := n } }
  | .t => { s with creditsT := { s.creditsT with heldReq := n, grantReq := n } }

/-- A pending ALERT is handed to Link port I at UP (R136, R162, step 5). -/
def sendPendingAlert (p : PortId) (s : State) : State :=
  match p with
  | .i =>
    if s.notices.alertPending then
      { s with notices := { s.notices with alertPending := false } }.handI
        (alertPacket (s.manager 0).tag s.notices.records.length)
    else s
  | .t => s

/-- The partner's INIT brings the port UP (R162). -/
def bringUp (p : PortId) (h : Header) (s : State) : State :=
  let s := recordGrant p (partnerGrant p h) s
  let s := s.setLink p { s.link p with state := .up, resend := none }
  sendPendingAlert p (sendReturns p s)

/-! ### Link resets (R170) -/

/-- The packets that a link reset leaves on the lane: the RESET of a fault sequence (R170, step 2). -/
def keptOnLane (lane : List WirePacket) : List WirePacket :=
  lane.filter (fun w => w.packet.header.kind == PacketKind.reset.code)

/-- The port's own part of a link reset of Link port I (R170, steps 1 to 4). -/
def resetPortI (s : State) : State :=
  let s :=
    { s with
      creditsI :=
        { givenTraffic := 0, givenMgmt := 0, returnTraffic := 0, returnMgmt := 0, heldResp := 0, grantResp := 0 },
      linkI := { s.linkI with lane := keptOnLane s.linkI.lane } }
  (s.bump .linkResetsI).plainNotice (.linkReset .i)

/-- The port's own part of a link reset of Link port T (R170, steps 1 to 4). -/
def resetPortT (s : State) : State :=
  let s :=
    { s with
      creditsT := { givenResp := 0, returnResp := 0, heldReq := 0, grantReq := 0 },
      linkT := { s.linkT with lane := keptOnLane s.linkT.lane } }
  (s.bump .linkResetsT).plainNotice (.linkReset .t)

/-- The Hold Buffer and the calendar at an I-port link reset: every queued request is discarded, every QLEN becomes 0 and
every pacer leaves (R72, R48). The refusal-pending slots go with the Reply List. -/
def dropQueues (s : State) : State :=
  { s with
    queues := Vector.replicate 128 [],
    pacers := s.pacers.map (fun c => { c with qlen := 0 }),
    calendar := [] }

/-- The Response Buffer and the Reply List at an I-port link reset: emptied, each target-origin entry returning its T-port
credit (R122). -/
def dropResponses (s : State) : State :=
  { s.returnResponses s.targetCount with responses := [], replies := [] }

/-- The Management Queue at an I-port link reset: emptied, the agent READY (R157). -/
def dropRequests (s : State) : State := { s with mgmtQueue := [], agent := { s.agent with state := .ready } }

/-- The alert state at an I-port link reset, after its notice (R138). -/
def resetAlert (s : State) : State :=
  if s.alertEnable && !s.notices.records.isEmpty then
    { s with notices := { s.notices with alertArmed := false, alertPending := true } }
  else s

/-- A link reset of Link port I, the port not UP (R170). -/
def linkResetI (s : State) : State :=
  let s := dropQueues (resetPortI s)
  let s := { s with outstanding := s.outstanding.map (entryAfterResetI s) }
  resetAlert (completeDrains (dropRequests (dropResponses s)))

/-- The calendar after a T-port link reset: its members kept, and every pacer whose terms now hold joined with its DUE
unchanged (R48, R60). -/
def rejoinAll (s : State) : State :=
  { s with calendar := (List.finRange 128).filter (fun p => s.calendar.contains p || onTerms (s.pacer p)) }

/-- A link reset of Link port T, the port not UP (R106, R124, R170). -/
def linkResetT (s : State) : State :=
  let s := resetPortT s
  let s := { s with replies := s.replies ++ (lostEntries s).map (ReplyItem.givenUp .linkLost) }
  let s :=
    { s with
      outstanding := s.outstanding.map entryAfterResetT,
      pacers := s.pacers.map (fun c => { c with flight := 0 }) }
  completeDrains (rejoinAll s)

/-- A link reset of a port (R170). -/
def linkReset (p : PortId) (s : State) : State :=
  match p with
  | .i => linkResetI s
  | .t => linkResetT s

/-- The fault sequence (R168): the port enters FAULT, its timer idle, a RESET is handed to its lane, and it performs a link
reset. -/
def faultSequence (p : PortId) (s : State) : State :=
  let s := s.setLink p { s.link p with state := .fault, resend := none }
  linkReset p (s.hand p resetPacket)

/-- A sound RESET is taken (R169). -/
def takeReset (p : PortId) (s : State) : State :=
  match (s.link p).state with
  | .down => s
  | .fault => linkReset p s
  | .up => enterInitWait p (linkReset p (s.setLinkState p .initWait))
  | .initWait => enterInitWait p (linkReset p s)

/-! ### Arrivals (R163 to R167) -/

/-- The credits that the bridge holds, and the partner's grant, of the class the partner grants on a port. -/
def heldAndGrant (s : State) : PortId → Nat × Nat
  | .i => (s.creditsI.heldResp, s.creditsI.grantResp)
  | .t => (s.creditsT.heldReq, s.creditsT.grantReq)

/-- The CREDIT_CLASS that the partner grants on a port (R164). -/
def partnerClass : PortId → BitVec 2
  | .i => creditResponse
  | .t => creditRequest

/-- A CREDIT arriving in UP is a fault: it names with a count above 0 a class the partner does not grant, or would pass the
partner's grant (R164, R167). -/
def creditFaulty (p : PortId) (h : Header) (s : State) : Bool :=
  decide (0 < h.creditCount.toNat)
    && (decide (h.creditClass ≠ partnerClass p)
      || decide ((heldAndGrant s p).2 < (heldAndGrant s p).1 + h.creditCount.toNat))

/-- A request arriving in UP is a fault: on Link port T always, on Link port I for an undefined class or with no credit of
its class (R163, R167, R174). -/
def requestFaulty (p : PortId) (h : Header) (s : State) : Bool :=
  match p with
  | .t => true
  | .i =>
    if h.cls = classTraffic then decide (s.creditsI.givenTraffic = 0)
    else if h.cls = classMgmt then decide (s.creditsI.givenMgmt = 0)
    else true

/-- A response arriving in UP is a fault: on Link port I always, on Link port T with no response credit (R163, R167). -/
def responseFaulty (p : PortId) (s : State) : Bool :=
  match p with
  | .i => true
  | .t => decide (s.creditsT.givenResp = 0)

/-- A packet of a kind is a fault of a port in UP (R166, R167). -/
def faultyInUp (p : PortId) (k : PacketKind) (h : Header) (s : State) : Bool :=
  match k with
  | .read => requestFaulty p h s
  | .write => requestFaulty p h s
  | .writeP => requestFaulty p h s
  | .readData => responseFaulty p s
  | .writeDone => responseFaulty p s
  | .credit => creditFaulty p h s
  | .init => true
  | .alert => true
  | .reset => false

/-- A packet of a kind is a fault of a port in INIT_WAIT: anything but a RESET, or an INIT that grants some credit of the class
the partner must grant (R167). -/
def faultyInInitWait (p : PortId) (k : PacketKind) (h : Header) : Bool :=
  match k with
  | .init => decide (partnerGrant p h = 0)
  | .reset => false
  | .read => true
  | .write => true
  | .writeP => true
  | .readData => true
  | .writeDone => true
  | .credit => true
  | .alert => true

/-- A traffic request is taken under its credit (R163). -/
def takeTraffic (pkt : Packet) (s : State) : State :=
  intake pkt { s with creditsI := { s.creditsI with givenTraffic := s.creditsI.givenTraffic - 1 } }

/-- A management request is taken under its credit (R163). -/
def takeMgmt (pkt : Packet) (s : State) : State :=
  mgmtJoin pkt { s with creditsI := { s.creditsI with givenMgmt := s.creditsI.givenMgmt - 1 } }

/-- A request is taken on Link port I by its class (R82, R163). -/
def takeRequestPacket (pkt : Packet) (s : State) : State :=
  if pkt.header.cls = classTraffic then takeTraffic pkt s else takeMgmt pkt s

/-- A response is taken on Link port T under its credit (R163). -/
def takeTargetResponse (pkt : Packet) (s : State) : State :=
  takeResponse pkt { s with creditsT := { s.creditsT with givenResp := s.creditsT.givenResp - 1 } }

/-- A CREDIT is taken: the held count of the class rises (R164). -/
def takeCredit (p : PortId) (n : Nat) (s : State) : State :=
  match p with
  | .i => { s with creditsI := { s.creditsI with heldResp := s.creditsI.heldResp + n } }
  | .t => { s with creditsT := { s.creditsT with heldReq := s.creditsT.heldReq + n } }

/-- A packet that is no fault is handled by its kind in UP (R166). -/
def handleInUp (p : PortId) (k : PacketKind) (pkt : Packet) (s : State) : State :=
  match k with
  | .read => takeRequestPacket pkt s
  | .write => takeRequestPacket pkt s
  | .writeP => takeRequestPacket pkt s
  | .readData => takeTargetResponse pkt s
  | .writeDone => takeTargetResponse pkt s
  | .credit => takeCredit p pkt.header.creditCount.toNat s
  | .reset => takeReset p s
  | .init => s
  | .alert => s

/-- A packet that is no fault is handled by its kind in INIT_WAIT (R162, R169). -/
def handleInInitWait (p : PortId) (k : PacketKind) (pkt : Packet) (s : State) : State :=
  match k with
  | .init => bringUp p pkt.header s
  | .reset => takeReset p s
  | .read => s
  | .write => s
  | .writeP => s
  | .readData => s
  | .writeDone => s
  | .credit => s
  | .alert => s

/-- The kind of a sound packet: its check word agrees, its kind is defined and its framing is right (R167). -/
def soundKind (pkt : Packet) (checkOk : Bool) : Option PacketKind :=
  if pkt.framed && checkOk then pkt.kind? else none

/-- A packet arrives at a port (R159, R166 to R169): not taken in DOWN; discarded in FAULT unless a sound RESET; judged and
handled by its kind in INIT_WAIT and UP. -/
def arrive (p : PortId) (pkt : Packet) (checkOk : Bool) (s : State) : State :=
  match (s.link p).state with
  | .down => s
  | .fault => if soundKind pkt checkOk = some .reset then takeReset p s else s
  | .initWait =>
    match soundKind pkt checkOk with
    | none => faultSequence p s
    | some k => if faultyInInitWait p k pkt.header then faultSequence p s else handleInInitWait p k pkt s
  | .up =>
    match soundKind pkt checkOk with
    | none => faultSequence p s
    | some k => if faultyInUp p k pkt.header s then faultSequence p s else handleInUp p k pkt s

/-! ### The events of the ports -/

/-- POWER_ON_RESET (R160): every block at its power-on value with the straps sampled; then each port sends an INIT and enters
INIT_WAIT. The commands that wait are the model's own and stay. -/
def execPowerOnReset (wbase : BitVec 4) (pmtag : Tag) (s : State) : Host.Outcome State Fault Refusal :=
  .next { enterInitWait .t (enterInitWait .i (powerOn true wbase pmtag)) with draws := s.draws, pending := s.pending }

/-- TRAFFIC_ARRIVAL (R83): the request arrives, sound, on Link port I. -/
def execTrafficArrival (pkt : Packet) (s : State) : Host.Outcome State Fault Refusal := .next (arrive .i pkt true s)

/-- MGMT_ARRIVAL (R142): the request arrives, sound, on Link port I. -/
def execMgmtArrival (pkt : Packet) (s : State) : Host.Outcome State Fault Refusal := .next (arrive .i pkt true s)

/-- TARGET_RESPONSE (R97): the response arrives, sound, on Link port T. -/
def execTargetResponse (pkt : Packet) (s : State) : Host.Outcome State Fault Refusal := .next (arrive .t pkt true s)

/-- INIT_ARRIVAL (R162). -/
def execInitArrival (p : PortId) (trafficGrant : BitVec 9) (mgmtGrant : BitVec 3) (respGrant reqGrant : BitVec 8)
    (s : State) : Host.Outcome State Fault Refusal :=
  .next (arrive p (initPacket trafficGrant mgmtGrant respGrant reqGrant) true s)

/-- CREDIT_ARRIVAL (R164). -/
def execCreditArrival (p : PortId) (creditClass : BitVec 2) (count : BitVec 8) (s : State) :
    Host.Outcome State Fault Refusal :=
  .next (arrive p (creditPacket creditClass count) true s)

/-- RESET_ARRIVAL (R169). -/
def execResetArrival (p : PortId) (s : State) : Host.Outcome State Fault Refusal := .next (arrive p resetPacket true s)

/-- The receiver computes the check word afresh and compares: the packet carries the code of its header and data (section
12.1). -/
def checkAgrees (header : BitVec 128) (data : List Beat) (check : CheckWord) : Bool :=
  decide (check = Config.checkWord header data)

/-- FAULT (R167): a packet off the lane arrives, its check word is compared, and it is judged as any arrival is; a fault starts
the fault sequence (notes/assumptions/16.md). -/
def execFault (p : PortId) (header : BitVec 128) (data : List Beat) (check : CheckWord) (s : State) :
    Host.Outcome State Fault Refusal :=
  .next (arrive p { header := Header.ofBits header, data := data } (checkAgrees header data check) s)

/-- The lane once the RESET of a fault sequence has been sent. -/
def withoutReset (lane : List WirePacket) : List WirePacket :=
  lane.filter (fun w => w.packet.header.kind != PacketKind.reset.code)

/-- FAULT_RESET_SENT (R168): the RESET leaves the lane, and the port enters INIT_WAIT and sends an INIT; nothing unless the
port is in FAULT. -/
def execFaultResetSent (p : PortId) (s : State) : Host.Outcome State Fault Refusal :=
  .next (if (s.link p).state = .fault then
      enterInitWait p (s.setLink p { s.link p with lane := withoutReset (s.link p).lane })
    else s)

/-- The resend timer has reached its expiry in INIT_WAIT (R161). -/
def resendReached (s : State) (l : Link) : Bool :=
  l.state == .initWait
    && (match l.resend with
      | some t => decide (t ≤ s.clock.deviceTime)
      | none => false)

/-- INIT_RESEND (R161); nothing while the timer has not reached its expiry in INIT_WAIT. -/
def execInitResend (p : PortId) (s : State) : Host.Outcome State Fault Refusal :=
  .next (if resendReached s (s.link p) then sendInit p s else s)

/-- CREDIT_SEND (R165); nothing while the port is not UP or the RETURN count is 0. -/
def execCreditSend (which : CreditReturn) (s : State) : Host.Outcome State Fault Refusal :=
  .next (creditSendOnce which s)

end Sys2Proof.Machine
end

