-- ==== Sys2Proof/Machine/MgmtRows.lean ====
section
/-!
DEFINITION. The management rows: each is the management request of its form arriving, sound, on Link port I, where it joins
the Management Queue and is taken in the same event if the agent is READY (R142, R143; notes/assumptions/6.md).
-/

namespace Sys2Proof.Machine

/-- A management WRITE of a word, from this sender, arrives (R141). -/
def writeArrives (src : Sender) (w : WindowWord) (value : MgmtWord) (s : State) : State :=
  arrive .i (writeRequest s src w value) true s

/-- A management READ of a word, from this sender, arrives (R141). -/
def readArrives (src : Sender) (w : WindowWord) (s : State) : State := arrive .i (readRequest s src w) true s

/-- The command word written with this command, pacer field and operand arrives (R154). -/
def commandArrives (k : Command) (src : Sender) (pacer : BitVec 8) (operand : BitVec 16) (s : State) : State :=
  writeArrives src .command (commandWord k.code pacer operand) s

/-- CMD_STAGE (R7). -/
def execCmdStage (src : Sender) (pacer : BitVec 8) (operand : BitVec 16) (s : State) : Host.Outcome State Fault Refusal :=
  .next (commandArrives .stage src pacer operand s)

/-- CMD_START (R8). -/
def execCmdStart (src : Sender) (pacer : BitVec 8) (operand : BitVec 16) (s : State) : Host.Outcome State Fault Refusal :=
  .next (commandArrives .start src pacer operand s)

/-- CMD_PAUSE (R9). -/
def execCmdPause (src : Sender) (pacer : BitVec 8) (operand : BitVec 16) (s : State) : Host.Outcome State Fault Refusal :=
  .next (commandArrives .pause src pacer operand s)

/-- CMD_RESUME (R10). -/
def execCmdResume (src : Sender) (pacer : BitVec 8) (operand : BitVec 16) (s : State) :
    Host.Outcome State Fault Refusal :=
  .next (commandArrives .resume src pacer operand s)

/-- CMD_RETIRE_FLUSH (R12). -/
def execCmdRetireFlush (src : Sender) (pacer : BitVec 8) (operand : BitVec 16) (s : State) :
    Host.Outcome State Fault Refusal :=
  .next (commandArrives .retireFlush src pacer operand s)

/-- CMD_RETIRE_DISCARD (R12, R13). -/
def execCmdRetireDiscard (src : Sender) (pacer : BitVec 8) (operand : BitVec 16) (s : State) :
    Host.Outcome State Fault Refusal :=
  .next (commandArrives .retireDiscard src pacer operand s)

/-- CMD_SET_SPACING (R11). -/
def execCmdSetSpacing (src : Sender) (pacer : BitVec 8) (operand : BitVec 16) (s : State) :
    Host.Outcome State Fault Refusal :=
  .next (commandArrives .setSpacing src pacer operand s)

/-- CMD_REARM_ALERT (R137). -/
def execCmdRearmAlert (src : Sender) (pacer : BitVec 8) (operand : BitVec 16) (s : State) :
    Host.Outcome State Fault Refusal :=
  .next (commandArrives .rearmAlert src pacer operand s)

/-- BAD_COMMAND (R154): the command word written with this code. -/
def execBadCommand (src : Sender) (code pacer : BitVec 8) (operand : BitVec 16) (s : State) :
    Host.Outcome State Fault Refusal :=
  .next (writeArrives src .command (commandWord code pacer operand) s)

/-- NOTICE_POP (R134). -/
def execNoticePop (src : Sender) (s : State) : Host.Outcome State Fault Refusal := .next (readArrives src .pop s)

/-- NOTICE_PEEK (R135). -/
def execNoticePeek (src : Sender) (s : State) : Host.Outcome State Fault Refusal := .next (readArrives src .peek s)

/-- TICK_LEN_WRITE (R45). -/
def execTickLenWrite (src : Sender) (value : MgmtWord) (s : State) : Host.Outcome State Fault Refusal :=
  .next (writeArrives src .tickLen value s)

/-- DEFAULT_PACER_WRITE (R79). -/
def execDefaultPacerWrite (src : Sender) (value : MgmtWord) (s : State) : Host.Outcome State Fault Refusal :=
  .next (writeArrives src .defaultPacer value s)

/-- TAG_MAP_WRITE (R78). -/
def execTagMapWrite (src : Sender) (t : Tag) (value : MgmtWord) (s : State) : Host.Outcome State Fault Refusal :=
  .next (writeArrives src (.tagMap t) value s)

/-- MANAGER_LIST_WRITE (R147). -/
def execManagerListWrite (src : Sender) (e : Fin 4) (value : MgmtWord) (s : State) :
    Host.Outcome State Fault Refusal :=
  .next (writeArrives src (.manager e) value s)

/-- ENABLES_WRITE (R152). -/
def execEnablesWrite (src : Sender) (value : MgmtWord) (s : State) : Host.Outcome State Fault Refusal :=
  .next (writeArrives src .enables value s)

/-- COUNTER_CLEAR (R153). -/
def execCounterClear (src : Sender) (c : Fin 16) (value : MgmtWord) (s : State) : Host.Outcome State Fault Refusal :=
  .next (writeArrives src (.counter c) value s)

/-- CONFIGURATION_WRITE (R17). -/
def execConfigurationWrite (src : Sender) (p : PacerId) (w : Fin 7) (value : MgmtWord) (s : State) :
    Host.Outcome State Fault Refusal :=
  .next (writeArrives src (.config p w) value s)

/-- MGMT_WRITE (R150): the management WRITE arrives, whatever its address and data. -/
def execMgmtWrite (pkt : Packet) (s : State) : Host.Outcome State Fault Refusal := .next (arrive .i pkt true s)

/-- MGMT_WRITE_P (R144). -/
def execMgmtWriteP (pkt : Packet) (s : State) : Host.Outcome State Fault Refusal := .next (arrive .i pkt true s)

end Sys2Proof.Machine
end

