-- ==== Sys2Proof/Machine/Sweeping.lean ====
section
/-!
DEFINITION. The Sweeper's steps (section 5.3).
-/

namespace Sys2Proof.Machine

/-- The state with the sweep cursor moved. -/
def State.setCursor (s : State) (c : SweepCursor) : State := { s with sweeper := { s.sweeper with cursor := c } }

/-- The DEFAULT_PACER step of the sweep of `p` (R89, step 1). -/
def defaultPacerStep (p : PacerId) (s : State) : State :=
  { s with defaultPacer := if s.defaultPacer = some p then none else s.defaultPacer }.setCursor (.visit p 0)

/-- The end of the sweep of `p`: VACANT, a RETIRE_DONE notice, the cursor idle, and the next sweep begun (R90). -/
def endSweep (p : PacerId) (s : State) : State :=
  let s := s.modPacer p (fun c => { c with state := .vacant })
  startSweep ((s.plainNotice (.retireDone p)).setCursor .idle)

/-- The visit of entry `k` in the sweep of `p` (R89, step 2), and after entry 1023 the end of the sweep. -/
def visitEntry (p : PacerId) (k : Tag) (s : State) : State :=
  let s := s.setBinding k (if s.binding k = some p then none else s.binding k)
  if k = 1023 then endSweep p s else s.setCursor (.visit p (k + 1))

/-- SWEEP_DEFAULT_PACER_STEP (R89); nothing unless the cursor stands at that step. -/
def execSweepDefaultPacerStep (s : State) : Host.Outcome State Fault Refusal :=
  .next (match s.sweeper.cursor with
    | .defaultStep p => defaultPacerStep p s
    | .idle => s
    | .visit _ _ => s)

/-- SWEEP_ENTRY_VISIT (R89); nothing unless the cursor stands at an entry. -/
def execSweepEntryVisit (s : State) : Host.Outcome State Fault Refusal :=
  .next (match s.sweeper.cursor with
    | .visit p k => visitEntry p k s
    | .idle => s
    | .defaultStep _ => s)

end Sys2Proof.Machine
end

