-- ==== Sys2Proof/Machine/Dispatch.lean ====
section
/-!
DEFINITION. The dispatch: one arm for each command, in the table's order.
-/

namespace Sys2Proof.Machine

def exec (i : Instr) (s : State) : Host.Outcome State Fault Refusal :=
  match i with
  | .powerOnReset wbase pmtag => Sys2Proof.Machine.execPowerOnReset wbase pmtag s
  | .pacingTick => Sys2Proof.Machine.execPacingTick s
  | .trafficArrival pkt => Sys2Proof.Machine.execTrafficArrival pkt s
  | .mgmtArrival pkt => Sys2Proof.Machine.execMgmtArrival pkt s
  | .targetResponse pkt => Sys2Proof.Machine.execTargetResponse pkt s
  | .initArrival port tg mg rg qg => Sys2Proof.Machine.execInitArrival port tg mg rg qg s
  | .creditArrival port cls count => Sys2Proof.Machine.execCreditArrival port cls count s
  | .resetArrival port => Sys2Proof.Machine.execResetArrival port s
  | .fault port header data check => Sys2Proof.Machine.execFault port header data check s
  | .faultResetSent port => Sys2Proof.Machine.execFaultResetSent port s
  | .initResend port => Sys2Proof.Machine.execInitResend port s
  | .creditSend which => Sys2Proof.Machine.execCreditSend which s
  | .departure => Sys2Proof.Machine.execDeparture s
  | .expiry n => Sys2Proof.Machine.execExpiry n s
  | .quarantineEnd n => Sys2Proof.Machine.execQuarantineEnd n s
  | .sweepDefaultPacerStep => Sys2Proof.Machine.execSweepDefaultPacerStep s
  | .sweepEntryVisit => Sys2Proof.Machine.execSweepEntryVisit s
  | .replyPlacement => Sys2Proof.Machine.execReplyPlacement s
  | .responseSend => Sys2Proof.Machine.execResponseSend s
  | .cmdStage src pacer operand => Sys2Proof.Machine.execCmdStage src pacer operand s
  | .cmdStart src pacer operand => Sys2Proof.Machine.execCmdStart src pacer operand s
  | .cmdPause src pacer operand => Sys2Proof.Machine.execCmdPause src pacer operand s
  | .cmdResume src pacer operand => Sys2Proof.Machine.execCmdResume src pacer operand s
  | .cmdRetireFlush src pacer operand => Sys2Proof.Machine.execCmdRetireFlush src pacer operand s
  | .cmdRetireDiscard src pacer operand => Sys2Proof.Machine.execCmdRetireDiscard src pacer operand s
  | .cmdSetSpacing src pacer operand => Sys2Proof.Machine.execCmdSetSpacing src pacer operand s
  | .cmdRearmAlert src pacer operand => Sys2Proof.Machine.execCmdRearmAlert src pacer operand s
  | .badCommand src code pacer operand => Sys2Proof.Machine.execBadCommand src code pacer operand s
  | .noticePop src => Sys2Proof.Machine.execNoticePop src s
  | .noticePeek src => Sys2Proof.Machine.execNoticePeek src s
  | .tickLenWrite src value => Sys2Proof.Machine.execTickLenWrite src value s
  | .defaultPacerWrite src value => Sys2Proof.Machine.execDefaultPacerWrite src value s
  | .tagMapWrite src t value => Sys2Proof.Machine.execTagMapWrite src t value s
  | .managerListWrite src e value => Sys2Proof.Machine.execManagerListWrite src e value s
  | .enablesWrite src value => Sys2Proof.Machine.execEnablesWrite src value s
  | .counterClear src c value => Sys2Proof.Machine.execCounterClear src c value s
  | .configurationWrite src p w value => Sys2Proof.Machine.execConfigurationWrite src p w value s
  | .mgmtWrite pkt => Sys2Proof.Machine.execMgmtWrite pkt s
  | .mgmtWriteP pkt => Sys2Proof.Machine.execMgmtWriteP pkt s

end Sys2Proof.Machine
end

