-- ==== Sys2Proof/Machine/Idle.lean ====
section
/-!
DEFINITION. What happens when no command waits: time passes (R44, R95; notes/assumptions/3.md) and each port's lane goes on
sending (R166; notes/assumptions/4.md).
-/

namespace Sys2Proof.Machine

/-- A lane sends its oldest packet. The RESET of a fault sequence is left: its sending is FAULT_RESET_SENT's (R168). -/
def laneSend (l : Link) : Link :=
  match l.state with
  | .up => { l with lane := l.lane.drop 1 }
  | .initWait => { l with lane := l.lane.drop 1 }
  | .fault => l
  | .down => l

/-- The reference clock runs on while RESET_N is released. -/
def timePasses (s : State) : Clock := if s.pins.resetN then s.clock.run s.agent.tickLen else s.clock

/-- Time passes and both lanes send; nothing else changes. -/
def idle (s : State) : State :=
  { s with clock := timePasses s, linkI := laneSend s.linkI, linkT := laneSend s.linkT }

end Sys2Proof.Machine
end

