-- ==== Sys2Proof/Safety.lean ====
section
/-!
DEFINITION. The laws of the LP-2160: what holds in every state that a run reaches, as the spec's chapters gather them under
"laws". The statements say of each that reset has it and that every step keeps it.
-/

namespace Sys2Proof.Machine

/-! ### The context (R5, R20, R21) -/

/-- A pacer outside VACANT holds a legal configuration (R5), SPACING stands between its bounds (R20) and QLEN is at most
QUEUE_LIMIT (R21). -/
structure Pacer.Lawful (c : Pacer) : Prop where
  legal : c.state ≠ .vacant → Machine.legal c.cfg = true
  spacingLow : c.state ≠ .vacant → c.cfg.spaceMin.toNat ≤ c.spacing.toNat
  spacingHigh : c.state ≠ .vacant → c.spacing.toNat ≤ c.cfg.spaceMax.toNat
  queueLimit : c.state ≠ .vacant → c.qlen ≤ c.cfg.queueLimit.toNat

/-- Every pacer context is lawful (R5, R20, R21). -/
def ContextLaw (s : State) : Prop := ∀ p : PacerId, (s.pacer p).Lawful

/-- In LIVE and PAUSED the window tallies stand below WINDOW (R27), and SLOW agrees with SPACING, SLOW_AT and SLOW_BAND
(R37, R39). -/
structure Pacer.Settled (c : Pacer) : Prop where
  marks : adapts c = true → c.winMarks ≤ c.winCount
  window : adapts c = true → c.winCount < c.cfg.window.toNat
  slowOff : adapts c = true → c.cfg.slowAt = 0 → c.slow = false
  slowSet : adapts c = true → c.cfg.slowAt ≠ 0 → c.slow = true →
    c.cfg.slowAt.toNat - c.cfg.slowBand.toNat < c.spacing.toNat
  slowClear : adapts c = true → c.cfg.slowAt ≠ 0 → c.slow = false → c.spacing.toNat ≤ c.cfg.slowAt.toNat

/-- Every pacer context is settled (R27, R37, R39). -/
def AdaptationLaw (s : State) : Prop := ∀ p : PacerId, (s.pacer p).Settled

/-! ### The pacer table, the queues, the calendar and the sweeper -/

/-- The pacers whose sweep is in hand or waits: the cursor's, then the sweep queue (R88). -/
def sweepList (s : State) : List PacerId :=
  match s.sweeper.cursor with
  | .idle => s.sweeper.queue
  | .defaultStep p => p :: s.sweeper.queue
  | .visit p _ => p :: s.sweeper.queue

/-- A pacer in DRAINING with DISCARD (R69). -/
def discarding (c : Pacer) : Bool := c.state == .draining && c.retireMode == some .discard

/-- The ABORTING marks of a pacer's queue: the head carries one exactly when the pacer drains with DISCARD, and no other slot
does (R69). -/
def marksRight (c : Pacer) : List HoldSlot → Prop
  | [] => True
  | h :: rest => h.aborting = discarding c ∧ ∀ x ∈ rest, x.aborting = false

/-- What one pacer's context, queue, calendar place, entries and items hold together. -/
structure PacerLaw (s : State) (p : PacerId) : Prop where
  /-- On the calendar exactly on the terms of R47. -/
  calendar : p ∈ s.calendar ↔ onTerms (s.pacer p) = true
  /-- FLIGHT is the number of BUSY entries of the pacer (R112). -/
  flight : (s.pacer p).flight = s.busyCount p
  /-- FLIGHT is at most FLIGHT_CAP outside VACANT (R112). -/
  flightCap : (s.pacer p).state ≠ .vacant → (s.pacer p).flight ≤ (s.pacer p).cfg.flightCap.toNat
  /-- QLEN is the length of the queue (R2). -/
  qlen : (s.pacer p).qlen = (s.queue p).length
  /-- A VACANT or SWEEPING pacer has an empty queue (R16, R21). -/
  idleQueue : (s.pacer p).state = .vacant ∨ (s.pacer p).state = .sweeping → (s.pacer p).qlen = 0
  /-- A VACANT, STAGED or SWEEPING pacer has nothing in flight (R7, R16, R112). -/
  idleFlight : (s.pacer p).state = .vacant ∨ (s.pacer p).state = .staged ∨ (s.pacer p).state = .sweeping →
    (s.pacer p).flight = 0
  /-- A pacer is SWEEPING exactly when its sweep is in hand or waits (R15, R88). -/
  sweeping : (s.pacer p).state = .sweeping ↔ p ∈ sweepList s
  /-- RETIRE_MODE is present in DRAINING and absent elsewhere (R2). -/
  retireMode : (s.pacer p).retireMode.isSome = true ↔ (s.pacer p).state = .draining
  /-- No pacer stays DRAINING with QLEN and FLIGHT both 0 (R15). -/
  notDrained : drained (s.pacer p) = false
  /-- The ABORTING marks stand where R69 puts them. -/
  marks : marksRight (s.pacer p) (s.queue p)
  /-- A pacer that drains with DISCARD has one ABORTED item while a request waits, and no other pacer has one (R69). -/
  abortedItem : s.replies.count (.aborted p) = if discarding (s.pacer p) ∧ (s.queue p) ≠ [] then 1 else 0

/-- The law of the pacer table and what hangs on it (R2, R15, R16, R47, R69, R88, R112). -/
structure TableLaw (s : State) : Prop where
  pacers : ∀ p : PacerId, PacerLaw s p
  /-- The calendar lists its pacers in increasing number, each once (R46). -/
  sorted : s.calendar.Pairwise (· < ·)
  /-- No pacer waits twice for its sweep (R88). -/
  sweepOnce : (sweepList s).Nodup
  /-- The Sweeper does not idle while a pacer waits (R88). -/
  sweepBusy : s.sweeper.cursor = .idle → s.sweeper.queue = []

/-! ### The Tag Map (R93) -/

/-- The binding law: a bound entry, and DEFAULT_PACER when set, names a pacer that is not VACANT (R93); and a sweep leaves
behind it nothing that names its pacer (R89). -/
structure BindingLaw (s : State) : Prop where
  bound : ∀ (t : Tag) (p : PacerId), s.binding t = some p → (s.pacer p).state ≠ .vacant
  default : ∀ p : PacerId, s.defaultPacer = some p → (s.pacer p).state ≠ .vacant
  sweptDefault : ∀ (p : PacerId) (k : Tag), s.sweeper.cursor = .visit p k → s.defaultPacer ≠ some p
  sweptEntries : ∀ (p : PacerId) (k t : Tag), s.sweeper.cursor = .visit p k → t.toNat < k.toNat →
    s.binding t ≠ some p

/-! ### The notice queue (R140) -/

/-- The crossing records of pacer `p` in the queue. -/
def crossingRecords (s : State) (p : PacerId) : Nat :=
  s.notices.records.countP (fun r => r.body.crossingOf == some p)

/-- The notice-queue law (R140), with the states in which no crossing of a pacer can be pending (R7, R12). -/
structure NoticeLaw (s : State) : Prop where
  room : s.notices.records.length ≤ Config.noticeRecords
  pending : ∀ p : PacerId, crossingRecords s p = if (s.pacer p).crossPending then 1 else 0
  quiet : ∀ p : PacerId, adapts (s.pacer p) = false → (s.pacer p).crossPending = false

/-! ### The credits and the lanes (R114, R127, R164, R174) -/

/-- The sums of R127, which hold from the sending of an INIT on, the capacities they keep (R74, R114, R142), the partner's grants as
bounds of the credits held (R164), and the check word of every packet on a lane (R174). -/
structure CreditLaw (s : State) : Prop where
  traffic : s.linkI.state.countsReturns = true → s.creditsI.givenTraffic + s.occupiedSlots = Config.holdSlots
  slots : s.occupiedSlots ≤ Config.holdSlots
  mgmt : s.linkI.state.countsReturns = true → s.creditsI.givenMgmt + s.mgmtQueue.length = Config.mgmtEntries
  requests : s.mgmtQueue.length ≤ Config.mgmtEntries
  target : s.linkT.state.countsReturns = true → s.creditsT.givenResp + s.targetCount = Config.targetShare
  targetShare : s.targetCount ≤ Config.targetShare
  bridgeShare : s.bridgeCount ≤ Config.bridgeShare
  /-- The bridge never holds more than the partner granted (R164). -/
  heldResp : s.creditsI.heldResp ≤ s.creditsI.grantResp
  heldReq : s.creditsT.heldReq ≤ s.creditsT.grantReq
  /-- Every packet goes out with the check word of what is sent (R174). -/
  checksI : ∀ w ∈ s.linkI.lane, w.check = Config.checkWord w.packet.header.toBits w.packet.data
  checksT : ∀ w ∈ s.linkT.lane, w.check = Config.checkWord w.packet.header.toBits w.packet.data

/-! ### The outstanding entries (R94, R118) -/

/-- The item answers outstanding entry `n`. -/
def ReplyItem.answersEntry (n : EntryId) : ReplyItem → Bool
  | .givenUp _ m => m == n
  | .refusal _ _ _ => false
  | .aborted _ => false
  | .mgmt _ _ _ => false

/-- The fields an entry has in its state (R94), and its one item while CLOSING, of its cause (R104, R118). -/
structure EntryLaw (s : State) (n : EntryId) : Prop where
  deadline : (s.entry n).state ≠ .busy → (s.entry n).deadline = none
  closeCause : (s.entry n).closeCause.isSome = true ↔ (s.entry n).state = .closing
  quarantineEnd : (s.entry n).quarantineEnd.isSome = true ↔ (s.entry n).state = .quarantine
  freeOrphan : (s.entry n).state = .free → (s.entry n).orphan = false
  freeFlag : (s.entry n).state = .free → (s.entry n).quarantineOnClose = false
  /-- A LINK_LOST entry always has the flag clear (R104). -/
  lostFlag : (s.entry n).closeCause = some .linkLost → (s.entry n).quarantineOnClose = false
  item : s.replies.countP (ReplyItem.answersEntry n) = if (s.entry n).state = .closing then 1 else 0
  /-- The item's status goes by CLOSE_CAUSE (R104). -/
  itemCause : ∀ cause, .givenUp cause n ∈ s.replies → (s.entry n).closeCause = some cause

/-- Every outstanding entry is as R94, R104 and R118 give. -/
def OutstandingLaw (s : State) : Prop := ∀ n : EntryId, EntryLaw s n

/-! ### The agent and the clock (R45, R143, R148) -/

/-- The item answers a management request. -/
def ReplyItem.isMgmt : ReplyItem → Bool
  | .mgmt _ _ _ => true
  | .refusal _ _ _ => false
  | .aborted _ => false
  | .givenUp _ _ => false

/-- A READY agent has nothing waiting, an ANSWERING one has its request and its one item (R143); manager list entry 0 is valid
(R148); TICK_LEN is in its range, and the pacing tick in progress has a length of that range and has not run out (R45). The counts of the
tick's units and of those since the last microsecond are the model's (notes/assumptions/3.md). -/
structure AgentLaw (s : State) : Prop where
  ready : s.agent.state = .ready → s.mgmtQueue = []
  answering : s.agent.state = .answering → s.mgmtQueue ≠ []
  item : s.replies.countP ReplyItem.isMgmt = if s.agent.state = .answering then 1 else 0
  primary : (s.manager 0).valid = true
  tickLen : 5 ≤ s.agent.tickLen.toNat ∧ s.agent.tickLen.toNat ≤ 1280
  tickSpan : 5 ≤ s.clock.tickSpan ∧ s.clock.tickSpan ≤ 1280
  tickPast : s.clock.tickPast < s.clock.tickSpan
  unitsPast : s.clock.unitsPast < 250

/-! ### The words of the statements: management requests -/

/-- A request of this sender is taken as it arrives and passes the access check: Link port I is UP with a management credit
given, the agent is READY with nothing waiting, and the tag is a manager's (R142, R143, R146). -/
abbrev MgmtOpen (s : State) (src : Sender) : Prop :=
  s.linkI.state = .up ∧ 0 < s.creditsI.givenMgmt ∧ s.agent.state = .ready ∧ s.mgmtQueue = [] ∧
    isManager s src.tag = true

/-- `e` with what the taking of a request itself does (R143, R163): one management credit used, the request at the head of the
queue, the item at the tail of the Reply List, and the agent ANSWERING. -/
def answered (e : State) (pkt : Packet) (a : Answer) : State :=
  { e with
    creditsI := { e.creditsI with givenMgmt := e.creditsI.givenMgmt - 1 },
    mgmtQueue := [pkt],
    replies := e.replies ++ [.mgmt a.status a.detail a.beat],
    agent := { e.agent with state := .answering } }

/-- `e` with the last-command record replaced (R155). -/
def recorded (e : State) (code pacer : BitVec 8) (operand : BitVec 16) (o : CommandOutcome) : State :=
  { e with
    agent := { e.agent with lastCommand := { valid := true, code, pacer, operand, outcome := o.code } } }

/-- The pacer field that names pacer `p`. -/
def pacerField (p : PacerId) : BitVec 8 := BitVec.ofNat 8 p.val

/-- The state after a command write has been taken in `s`, where `e` is `s` with the command's own effects: the record and the
answer OK with the outcome (R154, R155). -/
def commandDone (s e : State) (code : BitVec 8) (src : Sender) (pacer : BitVec 8) (operand : BitVec 16)
    (o : CommandOutcome) : State :=
  answered (recorded e code pacer operand o) (writeRequest s src .command (commandWord code pacer operand))
    { status := statusOk, detail := o.code, beat := 0 }

/-- The state after a WRITE of a word has been taken in `s`, where `e` is `s` with its own effects (R145). -/
def writeDone (s e : State) (src : Sender) (w : WindowWord) (v : MgmtWord) (status : BitVec 5) : State :=
  answered e (writeRequest s src w v) (statusAnswer status)

/-- The row of a command of the command word. -/
def commandRow (k : Command) (src : Sender) (pacer : BitVec 8) (operand : BitVec 16) : Instr :=
  match k with
  | .stage => .cmdStage src pacer operand
  | .start => .cmdStart src pacer operand
  | .pause => .cmdPause src pacer operand
  | .resume => .cmdResume src pacer operand
  | .retireFlush => .cmdRetireFlush src pacer operand
  | .retireDiscard => .cmdRetireDiscard src pacer operand
  | .setSpacing => .cmdSetSpacing src pacer operand
  | .rearmAlert => .cmdRearmAlert src pacer operand

/-- The cell of the table of R6 that a command meets in this context is Refused (REFUSED_STATE). -/
def refusedCell (k : Command) (c : Pacer) : Prop :=
  match k with
  | .stage => c.state ≠ .vacant
  | .start => c.state ≠ .staged
  | .pause => c.state ≠ .live ∧ c.state ≠ .paused
  | .resume => c.state ≠ .paused
  | .retireFlush => c.state ≠ .staged ∧ c.state ≠ .live ∧ c.state ≠ .paused
  | .retireDiscard =>
    c.state ≠ .staged ∧ c.state ≠ .live ∧ c.state ≠ .paused ∧ ¬(c.state = .draining ∧ c.retireMode = some .flush)
  | .setSpacing => c.state ≠ .staged ∧ c.state ≠ .live ∧ c.state ≠ .paused
  | .rearmAlert => False

/-- The beat of a word that names a pacer or none: PACER 7:0, BOUND 15, both 0 for none (section 12.3, R175). -/
def boundBeat : Option PacerId → Beat
  | none => 0
  | some p => BitVec.ofNat 256 (p.val + 2 ^ 15)

/-- The fields of a notice in the reply that carries it (R177). -/
structure NoticeFields where
  kind : BitVec 4
  pacer : BitVec 7
  tag : Tag
  txid : Txid
  value : BitVec 16
  deriving DecidableEq, Repr

/-- The fields a notice has by its kind, the absent ones 0 (section 12.2, R128, R177). -/
def noticeFields : NoticeBody → NoticeFields
  | .slow p v => { kind := 1, pacer := BitVec.ofNat 7 p.val, tag := 0, txid := 0, value := v }
  | .recovered p v => { kind := 2, pacer := BitVec.ofNat 7 p.val, tag := 0, txid := 0, value := v }
  | .retireDone p => { kind := 3, pacer := BitVec.ofNat 7 p.val, tag := 0, txid := 0, value := 0 }
  | .respTimeout p t x => { kind := 4, pacer := BitVec.ofNat 7 p.val, tag := t, txid := x, value := 0 }
  | .mismatch p t => { kind := 5, pacer := BitVec.ofNat 7 p.val, tag := t, txid := 0, value := 0 }
  | .denied t => { kind := 6, pacer := 0, tag := t, txid := 0, value := 0 }
  | .linkReset .i => { kind := 7, pacer := 0, tag := 0, txid := 0, value := 0 }
  | .linkReset .t => { kind := 7, pacer := 0, tag := 0, txid := 0, value := 1 }

/-- A legal configuration, condition by condition (R1, R5). -/
structure LegalConfig (c : PacerConfig) : Prop where
  spaceMin : 1 ≤ c.spaceMin.toNat
  order : c.spaceMin.toNat ≤ c.spaceStart.toNat ∧ c.spaceStart.toNat ≤ c.spaceMax.toNat
  upShift : 1 ≤ c.upShift.toNat ∧ c.upShift.toNat ≤ 8
  downShift : c.downShift.toNat ≤ 7
  window : 4 ≤ c.window.toNat ∧ c.window.toNat ≤ 64
  markLimit : 1 ≤ c.markLimit.toNat ∧ c.markLimit.toNat ≤ c.window.toNat
  flightCap : 1 ≤ c.flightCap.toNat ∧ c.flightCap.toNat ≤ 128
  queueLimit : 1 ≤ c.queueLimit.toNat ∧ c.queueLimit.toNat ≤ 256
  slowAt : c.slowAt ≠ 0 →
    c.spaceMin.toNat ≤ c.slowAt.toNat ∧ c.slowAt.toNat ≤ c.spaceMax.toNat ∧ c.slowBand.toNat < c.slowAt.toNat
  slowOff : c.slowAt = 0 → c.slowBand = 0

/-! ### The words of the statements: traffic requests -/

/-- The request starts on a 32-byte boundary and ends within the 48-bit address space (R84). -/
def RangeFits (h : Header) : Prop := 32 ∣ h.address.toNat ∧ h.address.toNat + 32 * h.beats ≤ 2 ^ 48

/-- Some byte of the request lies within the management window (R84). -/
def RangeMeetsWindow (wbase : BitVec 4) (h : Header) : Prop :=
  ∃ a : Nat, h.address.toNat ≤ a ∧ a < h.address.toNat + 32 * h.beats ∧ windowBase wbase ≤ a ∧
    a < windowBase wbase + windowBytes

/-- The lookup of R77 names pacer `p` for the tag. -/
def Names (s : State) (t : Tag) (p : PacerId) : Prop :=
  s.binding t = some p ∨ (s.binding t = none ∧ s.defaultPacer = some p)

/-- The request fails the checks of R83 with this cause, and this pacer is the one counted (R85). -/
def Refuses (s : State) (h : Header) : RefusalCause → Option PacerId → Prop
  | .malformed, p => p = none ∧ ¬RangeFits h
  | .window, p => p = none ∧ RangeFits h ∧ RangeMeetsWindow s.pins.wbase h
  | .unmapped, p =>
    p = none ∧ RangeFits h ∧ ¬RangeMeetsWindow s.pins.wbase h ∧ s.binding h.tag = none ∧ s.defaultPacer = none
  | .retiring, p =>
    ∃ q, p = some q ∧ RangeFits h ∧ ¬RangeMeetsWindow s.pins.wbase h ∧ Names s h.tag q ∧
      ((s.pacer q).state = .draining ∨ (s.pacer q).state = .sweeping)
  | .retry, p =>
    ∃ q, p = some q ∧ RangeFits h ∧ ¬RangeMeetsWindow s.pins.wbase h ∧ Names s h.tag q ∧
      bindable (s.pacer q) = true ∧ (s.pacer q).cfg.queueLimit.toNat ≤ (s.pacer q).qlen

/-- The state with REFUSE_COUNT of the pacer counted raised (R85). -/
def withRefusalCounted (s : State) : Option PacerId → State
  | none => s
  | some p => s.setPacer p { s.pacer p with refuseCount := saturatingSucc (s.pacer p).refuseCount }

/-! ### The words of the statements: the clock -/

/-- The clock after `n` units of 4 ns that end the pacing tick in progress (R44, R45, R95). -/
def clockAtTick (s : State) (n : Nat) : Clock :=
  { pacingTime := s.clock.pacingTime + 1, deviceTime := s.clock.deviceTime + (s.clock.unitsPast + n) / 250,
    unitsPast := (s.clock.unitsPast + n) % 250, tickSpan := s.agent.tickLen.toNat, tickPast := 0 }

/-- The clock after time has passed to the next whole microsecond or, if it comes no later, to the end of the pacing tick (R44, R95;
notes/assumptions/3.md). -/
def clockRun (s : State) : Clock :=
  if s.pins.resetN = false then s.clock
  else if 250 - s.clock.unitsPast < s.clock.tickSpan - s.clock.tickPast then
    { s.clock with
      deviceTime := s.clock.deviceTime + (s.clock.unitsPast + (250 - s.clock.unitsPast)) / 250,
      unitsPast := (s.clock.unitsPast + (250 - s.clock.unitsPast)) % 250,
      tickPast := s.clock.tickPast + (250 - s.clock.unitsPast) }
  else clockAtTick s (s.clock.tickSpan - s.clock.tickPast)

/-! ### The words of the statements: links -/

/-- The CREDIT packets that carry `n` returns of a class: full ones of 255, then the rest (R165). -/
def creditTrain (cls : BitVec 2) (n : Nat) : List WirePacket :=
  List.replicate (n / 255) (creditPacket cls 255).wire ++
    (if n % 255 = 0 then [] else [(creditPacket cls (BitVec.ofNat 8 (n % 255))).wire])

/-- The credit counts of Link port T with `n` response credits returned (R165). -/
def creditsAfterReturns (s : State) (n : Nat) : CreditsT :=
  if s.linkT.state = .up ∨ s.linkT.state = .initWait then
    { s.creditsT with givenResp := s.creditsT.givenResp + n, returnResp := s.creditsT.returnResp + n }
  else s.creditsT

/-- The credit counts of Link port I with `n` traffic credits returned (R165). -/
def creditsAfterSlots (s : State) (n : Nat) : CreditsI :=
  if s.linkI.state = .up ∨ s.linkI.state = .initWait then
    { s.creditsI with
      givenTraffic := s.creditsI.givenTraffic + n, returnTraffic := s.creditsI.returnTraffic + n }
  else s.creditsI

/-- The credit counts of Link port I with `n` management credits returned (R165). -/
def creditsAfterAnswers (s : State) (n : Nat) : CreditsI :=
  if s.linkI.state = .up ∨ s.linkI.state = .initWait then
    { s.creditsI with givenMgmt := s.creditsI.givenMgmt + n, returnMgmt := s.creditsI.returnMgmt + n }
  else s.creditsI

/-- The packet is sound: the check word it came with is the code of its header and data, its kind is defined and its framing is
right (R167). -/
def Sound (pkt : Packet) (check : CheckWord) : Prop := check = pkt.checkWord ∧ pkt.framed = true

/-- A packet is a fault of a port in INIT_WAIT (R167). -/
def FaultyInInitWait (p : PortId) (pkt : Packet) (check : CheckWord) : Prop :=
  ¬Sound pkt check ∨ (pkt.kind? ≠ some .init ∧ pkt.kind? ≠ some .reset) ∨
    (pkt.kind? = some .init ∧ partnerGrant p pkt.header = 0)

/-- A request packet is a fault of a port in UP (R163, R166, R167, R174). -/
def FaultyRequest (s : State) (p : PortId) (h : Header) : Prop :=
  p = .t ∨ (h.cls ≠ classTraffic ∧ h.cls ≠ classMgmt) ∨ (h.cls = classTraffic ∧ s.creditsI.givenTraffic = 0) ∨
    (h.cls = classMgmt ∧ s.creditsI.givenMgmt = 0)

/-- A CREDIT is a fault of a port in UP (R164, R167). -/
def FaultyCredit (s : State) (p : PortId) (h : Header) : Prop :=
  0 < h.creditCount.toNat ∧
    (h.creditClass ≠ partnerClass p ∨ (heldAndGrant s p).2 < (heldAndGrant s p).1 + h.creditCount.toNat)

/-- A packet is a fault of a port in UP (R166, R167). -/
def FaultyInUp (s : State) (p : PortId) (pkt : Packet) (check : CheckWord) : Prop :=
  ¬Sound pkt check ∨ pkt.kind? = some .init ∨ pkt.kind? = some .alert ∨
    ((pkt.kind? = some .read ∨ pkt.kind? = some .write ∨ pkt.kind? = some .writeP) ∧ FaultyRequest s p pkt.header) ∨
    ((pkt.kind? = some .readData ∨ pkt.kind? = some .writeDone) ∧ (p = .i ∨ s.creditsT.givenResp = 0)) ∨
    (pkt.kind? = some .credit ∧ FaultyCredit s p pkt.header)

/-- A packet is a fault of a port (R167): in DOWN and in FAULT nothing is. -/
def Faulty (s : State) (p : PortId) (pkt : Packet) (check : CheckWord) : Prop :=
  ((s.link p).state = .initWait ∧ FaultyInInitWait p pkt check) ∨
    ((s.link p).state = .up ∧ FaultyInUp s p pkt check)

/-- The port and the packet of a row that stands for a packet's arrival, its check word agreeing; none for FAULT, whose operands
are the packet, and for the bridge's own events (R166; notes/assumptions/6.md). -/
def arrivalOf (s : State) : Instr → Option (PortId × Packet)
  | .trafficArrival pkt => some (.i, pkt)
  | .mgmtArrival pkt => some (.i, pkt)
  | .targetResponse pkt => some (.t, pkt)
  | .initArrival p tg mg rg qg => some (p, initPacket tg mg rg qg)
  | .creditArrival p cls n => some (p, creditPacket cls n)
  | .resetArrival p => some (p, resetPacket)
  | .cmdStage src x v => some (.i, writeRequest s src .command (commandWord 1 x v))
  | .cmdStart src x v => some (.i, writeRequest s src .command (commandWord 2 x v))
  | .cmdPause src x v => some (.i, writeRequest s src .command (commandWord 3 x v))
  | .cmdResume src x v => some (.i, writeRequest s src .command (commandWord 4 x v))
  | .cmdRetireFlush src x v => some (.i, writeRequest s src .command (commandWord 5 x v))
  | .cmdRetireDiscard src x v => some (.i, writeRequest s src .command (commandWord 6 x v))
  | .cmdSetSpacing src x v => some (.i, writeRequest s src .command (commandWord 7 x v))
  | .cmdRearmAlert src x v => some (.i, writeRequest s src .command (commandWord 8 x v))
  | .badCommand src code x v => some (.i, writeRequest s src .command (commandWord code x v))
  | .noticePop src => some (.i, readRequest s src .pop)
  | .noticePeek src => some (.i, readRequest s src .peek)
  | .tickLenWrite src v => some (.i, writeRequest s src .tickLen v)
  | .defaultPacerWrite src v => some (.i, writeRequest s src .defaultPacer v)
  | .tagMapWrite src t v => some (.i, writeRequest s src (.tagMap t) v)
  | .managerListWrite src e v => some (.i, writeRequest s src (.manager e) v)
  | .enablesWrite src v => some (.i, writeRequest s src .enables v)
  | .counterClear src c v => some (.i, writeRequest s src (.counter c) v)
  | .configurationWrite src p w v => some (.i, writeRequest s src (.config p w) v)
  | .mgmtWrite pkt => some (.i, pkt)
  | .mgmtWriteP pkt => some (.i, pkt)
  | .fault _ _ _ _ => none
  | .powerOnReset _ _ => none
  | .pacingTick => none
  | .faultResetSent _ => none
  | .initResend _ => none
  | .creditSend _ => none
  | .departure => none
  | .expiry _ => none
  | .quarantineEnd _ => none
  | .sweepDefaultPacerStep => none
  | .sweepEntryVisit => none
  | .replyPlacement => none
  | .responseSend => none

/-! ### The words of the statements: outstanding entries -/

/-- The response fits the BUSY entry in tag, kind and beats, the beats of a WRITE_DONE not compared (R97; notes/assumptions/25.md). -/
def FitsEntry (pkt : Packet) (e : Entry) : Prop :=
  pkt.header.tag = e.tag ∧
    ((e.kind = .read ∧ pkt.kind? = some .readData ∧ pkt.header.beats = e.beats) ∨
      (e.kind = .write ∧ pkt.kind? = some .writeDone))

/-- The entry become FREE: five fields kept, the rest absent or clear (R94). -/
def freed (e : Entry) : Entry :=
  { state := .free, pacer := e.pacer, tag := e.tag, upTxid := e.upTxid, kind := e.kind, beats := e.beats,
    deadline := none, orphan := false, closeCause := none, quarantineOnClose := false, quarantineEnd := none }

/-- The entry given up on: in QUARANTINE for RESP_TIMEOUT from now, or FREE if that is 0 (R103, R104, R107). -/
def givenUpOn (s : State) (e : Entry) : Entry :=
  if s.agent.respTimeout = 0 then freed e
  else
    { e with
      state := .quarantine, deadline := none, closeCause := none,
      quarantineEnd := some (s.clock.deviceTime + s.agent.respTimeout.toNat) }

/-! ### The words of the statements: resets -/

/-- A pacer context at power-on (R1, R2). -/
def Pacer.AtPowerOn (c : Pacer) : Prop :=
  c = { cfg :=
          { spaceMin := 0, spaceMax := 0, spaceStart := 0, upShift := 0, downShift := 0, window := 0, markLimit := 0,
            slowAt := 0, slowBand := 0, idleLimit := 0, drainSpace := 0, priority := 0, flightCap := 0,
            queueLimit := 0 },
        state := .vacant, retireMode := none, spacing := 0, due := 0, lastDepart := 0, flight := 0, qlen := 0,
        winCount := 0, winMarks := 0, demand := false, slow := false, crossPending := false, departCount := 0,
        beatCount := 0, refuseCount := 0 }

/-- An outstanding entry at power-on (R94). -/
def Entry.AtPowerOn (e : Entry) : Prop :=
  e = { state := .free, pacer := 0, tag := 0, upTxid := 0, kind := .read, beats := 0, deadline := none,
        orphan := false, closeCause := none, quarantineOnClose := false, quarantineEnd := none }

/-- Every block but the ports, and but the tag of manager entry 0, at its power-on value. -/
structure PowerOnBlocks (t : State) : Prop where
  /-- R44, R45, R95; the units of 4 ns and the length of the tick in progress are the model's (notes/assumptions/3.md). -/
  clock : t.clock.pacingTime = 0 ∧ t.clock.deviceTime = 0 ∧ t.clock.unitsPast = 0 ∧ t.clock.tickPast = 0 ∧
    t.clock.tickSpan = 25
  /-- R1, R2. -/
  pacers : ∀ p : PacerId, (t.pacer p).AtPowerOn
  /-- R62. -/
  queues : ∀ p : PacerId, t.queue p = []
  /-- R46. -/
  calendar : t.calendar = []
  /-- R76. -/
  tagMap : ∀ g : Tag, t.binding g = none
  /-- R77. -/
  defaultPacer : t.defaultPacer = none
  /-- R94. -/
  outstanding : ∀ n : EntryId, (t.entry n).AtPowerOn
  /-- R113. -/
  responses : t.responses = []
  /-- R62, R118. -/
  replies : t.replies = []
  /-- R128, R136. -/
  notices : t.notices = { records := [], overflow := false, alertArmed := true, alertPending := false }
  /-- R142. -/
  mgmtQueue : t.mgmtQueue = []
  /-- R156. -/
  agent : t.agent.state = .ready ∧ t.agent.tickLen = 25 ∧ t.agent.respTimeout = 1000 ∧ t.agent.enables = 0xFF
  /-- R147. -/
  managers : (t.manager 0).valid = true ∧ ∀ e : Fin 4, e ≠ 0 → t.manager e = { valid := false, tag := 0 }
  /-- R153. -/
  counters : ∀ c : Counter, t.counter c = 0
  /-- R155. -/
  lastCommand : t.agent.lastCommand = { valid := false, code := 0, pacer := 0, operand := 0, outcome := 0 }
  /-- R88. -/
  sweeper : t.sweeper = { queue := [], cursor := .idle }

/-- The pacers whose drains a link reset completed joined the sweep queue's tail, each once, in some order
(R15, R88; notes/assumptions/8.md), and a sweep in progress went on. -/
structure DrainsJoined (s t : State) (completed : PacerId → Prop) : Prop where
  joined : ∃ l : List PacerId, sweepList t = sweepList s ++ l ∧ l.Nodup ∧ ∀ p, p ∈ l ↔ completed p
  cursor : s.sweeper.cursor ≠ .idle → t.sweeper.cursor = s.sweeper.cursor

/-- An outstanding entry before and after an I-port link reset (R107). -/
structure EntryOrphaned (s : State) (e f : Entry) : Prop where
  busy : e.state = .busy → f = { e with orphan := true }
  closing : e.state = .closing →
    f = if e.closeCause = some .timeout ∧ e.quarantineOnClose = true then givenUpOn s e else freed e
  others : e.state = .quarantine ∨ e.state = .free → f = e

/-- An outstanding entry before and after a T-port link reset (R106). -/
structure EntryLost (e f : Entry) : Prop where
  busy : e.state = .busy →
    f =
      if e.orphan then freed e
      else
        { e with state := .closing, closeCause := some .linkLost, quarantineOnClose := false, deadline := none }
  quarantine : e.state = .quarantine → f = freed e
  closing : e.state = .closing → f = { e with quarantineOnClose := false }
  free : e.state = .free → f = e

/-- The Notice Queue before and after an I-port link reset, whose port is not UP (R131, R138). -/
structure NoticesAfterResetI (s t : State) : Prop where
  off : s.noticeEnable .linkReset = false →
    t.notices.records = s.notices.records ∧ t.notices.overflow = s.notices.overflow
  entered : s.noticeEnable .linkReset = true → s.notices.records.length < 32 →
    t.notices.records = s.notices.records ++ [⟨.linkReset .i, s.stamp⟩] ∧ t.notices.overflow = s.notices.overflow
  lost : s.noticeEnable .linkReset = true → 32 ≤ s.notices.records.length →
    t.notices.records = s.notices.records ∧ t.notices.overflow = true
  alert : s.alertEnable = true → t.notices.records ≠ [] →
    t.notices.alertArmed = false ∧ t.notices.alertPending = true
  quiet : s.alertEnable = false ∨ t.notices.records = [] →
    t.notices.alertArmed = s.notices.alertArmed ∧ t.notices.alertPending = s.notices.alertPending

/-- The state with a counter of the agent raised, as its agent. -/
def agentCounting (s : State) (c : Counter) : Agent := (s.bump c).agent

/-- What a link reset of Link port I leaves beyond the port's own state, lane and counts (R170). -/
structure AfterResetI (s t : State) : Prop where
  /-- R72. -/
  queues : ∀ p : PacerId, t.queue p = []
  /-- R3, R15, R72. -/
  pacers : ∀ p : PacerId,
    t.pacer p =
      if (s.pacer p).state = .draining ∧ (s.pacer p).flight = 0 then
        { s.pacer p with qlen := 0, state := .sweeping, retireMode := none }
      else { s.pacer p with qlen := 0 }
  /-- R48. -/
  calendar : t.calendar = []
  /-- R107; an entry given up on keeps its two flags (notes/assumptions/13.md). -/
  entries : ∀ n : EntryId, EntryOrphaned s (s.entry n) (t.entry n)
  /-- R122. -/
  responses : t.responses = [] ∧ t.replies = [] ∧ t.creditsT = creditsAfterReturns s s.targetCount
  /-- R157, R170. -/
  agent : t.mgmtQueue = [] ∧ t.agent = { agentCounting s .linkResetsI with state := .ready }
  notices : NoticesAfterResetI s t
  /-- R15, R88. -/
  drains : DrainsJoined s t (fun p => (s.pacer p).state = .draining ∧ (s.pacer p).flight = 0)
  /-- R76, R77, R88, R170. -/
  kept : t.linkT = s.linkT ∧ t.tagMap = s.tagMap ∧ t.defaultPacer = s.defaultPacer ∧ t.clock = s.clock ∧
    t.pins = s.pins ∧ t.pending = s.pending

/-- What a link reset of Link port T leaves beyond the port's own state, lane and counts (R170). -/
structure AfterResetT (s t : State) : Prop where
  /-- R72. -/
  queues : t.queues = s.queues
  /-- R3, R15, R106; each FLIGHT is set to 0 in one go (notes/assumptions/14.md). -/
  pacers : ∀ p : PacerId,
    t.pacer p =
      if (s.pacer p).state = .draining ∧ (s.pacer p).qlen = 0 then
        { s.pacer p with flight := 0, state := .sweeping, retireMode := none }
      else { s.pacer p with flight := 0 }
  /-- R48, R60. -/
  calendar : ∀ p : PacerId, p ∈ t.calendar ↔ p ∈ s.calendar ∨ onTerms { s.pacer p with flight := 0 } = true
  sorted : t.calendar.Pairwise (· < ·)
  /-- R106. -/
  entries : ∀ n : EntryId, EntryLost (s.entry n) (t.entry n)
  /-- R106, R124. -/
  replies : ∃ lost : List EntryId,
    t.replies = s.replies ++ lost.map (ReplyItem.givenUp .linkLost) ∧ lost.Pairwise (· < ·) ∧
      ∀ n, n ∈ lost ↔ (s.entry n).state = .busy ∧ (s.entry n).orphan = false
  responses : t.responses = s.responses
  /-- R138, R170: the notice is an ordinary entry. -/
  notices : t.notices = ((s.bump .linkResetsT).plainNotice (.linkReset .t)).notices ∧
    t.linkI = ((s.bump .linkResetsT).plainNotice (.linkReset .t)).linkI
  /-- R157, R170. -/
  agent : t.mgmtQueue = s.mgmtQueue ∧ t.agent = agentCounting s .linkResetsT
  /-- R15, R88. -/
  drains : DrainsJoined s t (fun p => (s.pacer p).state = .draining ∧ (s.pacer p).qlen = 0)
  /-- R76, R77, R170. -/
  kept : t.creditsI = s.creditsI ∧ t.tagMap = s.tagMap ∧ t.defaultPacer = s.defaultPacer ∧ t.clock = s.clock ∧
    t.pins = s.pins ∧ t.pending = s.pending

/-! ### The words of the statements: departures -/

/-- Pacer `p` stands on the calendar and its head, this request, can depart now (R51). -/
def MayDepart (s : State) (p : PacerId) (req : Packet) : Prop :=
  p ∈ s.calendar ∧ (∃ slot rest, s.queue p = slot :: rest ∧ slot.request = req) ∧
    (s.pacer p).due.toNat ≤ s.clock.pacingTime.toNat ∧ s.linkT.state = .up ∧ 0 < s.creditsT.heldReq ∧
    (isPosted req = true ∨ ∃ n : EntryId, (s.entry n).state = .free)

/-- Pacer `p` is served before pacer `q`: by DUE, then PRIORITY, then number (R52). -/
def ServedBefore (s : State) (p q : PacerId) : Prop :=
  (s.pacer p).due.toNat < (s.pacer q).due.toNat ∨
    ((s.pacer p).due = (s.pacer q).due ∧
      ((s.pacer q).cfg.priority.toNat < (s.pacer p).cfg.priority.toNat ∨
        ((s.pacer p).cfg.priority = (s.pacer q).cfg.priority ∧ p < q)))

/-- Pacer `p` wins the arbiter's look with this head request (R50, R52). -/
def Wins (s : State) (p : PacerId) (req : Packet) : Prop :=
  MayDepart s p req ∧ ∀ q r, MayDepart s q r → q ≠ p → ServedBefore s p q

/-- Entry `n` is the lowest-numbered FREE entry (R96). -/
def LowestFree (s : State) (n : EntryId) : Prop :=
  (s.entry n).state = .free ∧ ∀ m : EntryId, m < n → (s.entry m).state ≠ .free

/-- The charge per beat of pacer context `c`: DRAIN_SPACE in DRAINING, SPACING otherwise (R56). -/
def charge (c : Pacer) : Nat := if c.state = .draining then c.cfg.drainSpace.toNat else c.spacing.toNat

/-- The DUE that a departure of `beats` beats at `now` leaves (R56). -/
def dueAfter (now : PacingTime) (beats : Nat) (c : Pacer) : PacingTime :=
  if c.state = .draining ∧ c.cfg.drainSpace = 0 then now
  else if now.toNat - c.due.toNat ≤ 16 * charge c then c.due + BitVec.ofNat 64 (beats * charge c)
  else now + BitVec.ofNat 64 (beats * charge c)

/-- The state once the idle rule has been put to pacer `p`, which is about to depart: its three conditions, at a first departure
after START too (R33; notes/assumptions/24.md). -/
def afterIdleRule (p : PacerId) (s : State) : State :=
  if (s.pacer p).state = .live ∧ (s.pacer p).cfg.idleLimit ≠ 0 ∧
      (s.pacer p).cfg.idleLimit.toNat * 256 < s.clock.pacingTime.toNat - (s.pacer p).lastDepart.toNat ∧
      (s.pacer p).spacing.toNat < (s.pacer p).cfg.spaceStart.toNat then
    crossingCheck p (s.setPacer p { s.pacer p with spacing := (s.pacer p).cfg.spaceStart })
  else s

/-- The context after its departure, where `extra` is 1 for a READ or WRITE and 0 for a WRITE_P (R54, R55, R56). -/
def departed (now : PacingTime) (beats extra : Nat) (c : Pacer) : Pacer :=
  { c with
    qlen := c.qlen - 1, flight := c.flight + extra,
    demand := if c.state = .live ∧ 1 < c.qlen then true else c.demand,
    lastDepart := now, departCount := c.departCount + 1, beatCount := c.beatCount + BitVec.ofNat 32 beats,
    due := dueAfter now beats c }

/-- The state once pacer `p`'s pending crossing, if it has one, has been withdrawn (R133). -/
def withdrawn (p : PacerId) (s : State) : State :=
  if (s.pacer p).crossPending then
    { s.setPacer p { s.pacer p with crossPending := false } with
      notices :=
        { s.notices with records := s.notices.records.filter (fun r => r.body.crossingOf != some p) } }
  else s

/-- The context after a window restart (R25) with this SPACING. -/
def restarted (c : Pacer) (spacing : BitVec 16) : Pacer :=
  { c with spacing := spacing, winCount := 0, winMarks := 0, demand := false }

end Sys2Proof.Machine
end

