-- ==== Sys2Proof/WellFormed.lean ====
section
/-!
DEFINITION. Which commands are well formed: a row's packet is of the row's kind and class with the data beats its header
calls for, and a bad command's code names no command. exec gives an ill-formed command a meaning all the same: the packet
is judged as any arrival is (R167).
-/

namespace Sys2Proof

/-- A sound request packet of this class. -/
def Packet.isRequestOf (p : Packet) (cls : BitVec 2) : Bool :=
  (match p.kind? with
    | some k => k.isRequest
    | none => false)
    && p.header.cls == cls && p.framed

/-- A sound response packet. -/
def Packet.isResponse (p : Packet) : Bool :=
  (match p.kind? with
    | some k => k.isResponse
    | none => false)
    && p.framed

/-- The operands of a command fit its row. -/
def WellFormed (i : Instr) : Bool :=
  match i with
  | .powerOnReset _ _ => true
  | .pacingTick => true
  | .trafficArrival pkt => pkt.isRequestOf classTraffic
  | .mgmtArrival pkt => pkt.isRequestOf classMgmt
  | .targetResponse pkt => pkt.isResponse
  | .initArrival _ _ _ _ _ => true
  | .creditArrival _ _ _ => true
  | .resetArrival _ => true
  | .fault _ _ data _ => decide (data.length ≤ 16)
  | .faultResetSent _ => true
  | .initResend _ => true
  | .creditSend _ => true
  | .departure => true
  | .expiry _ => true
  | .quarantineEnd _ => true
  | .sweepDefaultPacerStep => true
  | .sweepEntryVisit => true
  | .replyPlacement => true
  | .responseSend => true
  | .cmdStage _ _ _ => true
  | .cmdStart _ _ _ => true
  | .cmdPause _ _ _ => true
  | .cmdResume _ _ _ => true
  | .cmdRetireFlush _ _ _ => true
  | .cmdRetireDiscard _ _ _ => true
  | .cmdSetSpacing _ _ _ => true
  | .cmdRearmAlert _ _ _ => true
  | .badCommand _ code _ _ => (Machine.Command.ofCode code).isNone
  | .noticePop _ => true
  | .noticePeek _ => true
  | .tickLenWrite _ _ => true
  | .defaultPacerWrite _ _ => true
  | .tagMapWrite _ _ _ => true
  | .managerListWrite _ _ _ => true
  | .enablesWrite _ _ => true
  | .counterClear _ _ _ => true
  | .configurationWrite _ _ _ _ => true
  | .mgmtWrite pkt => pkt.kind? == some .write && pkt.isRequestOf classMgmt
  | .mgmtWriteP pkt => pkt.kind? == some .writeP && pkt.isRequestOf classMgmt

end Sys2Proof
end

