-- ==== Sys2Proof/Certificates/Slice0/Obligations.lean ====
section
/-!
DEFINITION. The statements for the provers, in the words of Sys2Proof/Safety.lean. Each names the rules of spec/ it comes from;
OBLIGATIONS.json says which are stated whole.
-/

section Statements

open Sys2Proof Sys2Proof.Machine

/-! ### Laws that every step keeps -/

/-- The state after reset has every law of Safety.lean. The laws rest in part on the model's choices: the agent law on the count of
the pacing tick's units and of those since the last microsecond (notes/assumptions/3.md), the credit law on the lanes, empty at reset
(notes/assumptions/2.md, notes/assumptions/22.md), and on the code of their check words, left open (notes/assumptions/7.md). -/
def Obligations.Reset_has_every_law : Prop :=
  ContextLaw State.reset ∧ AdaptationLaw State.reset ∧ TableLaw State.reset ∧ BindingLaw State.reset ∧
    NoticeLaw State.reset ∧ CreditLaw State.reset ∧ OutstandingLaw State.reset ∧ AgentLaw State.reset

/-- R5, R20, R21: whatever command is taken, every pacer outside VACANT keeps a legal configuration, its SPACING between its
bounds and its QLEN within QUEUE_LIMIT. -/
def Obligations.Every_step_keeps_the_context_law : Prop :=
  ∀ s t : State, ContextLaw s → step s = .next t → ContextLaw t

/-- R27, R37, R39: every step keeps the window tallies below WINDOW and SLOW in agreement with SPACING. -/
def Obligations.Every_step_keeps_the_adaptation_law : Prop :=
  ∀ s t : State, ContextLaw s → AdaptationLaw s → step s = .next t → AdaptationLaw t

/-- R2, R15, R46, R47, R69, R88, R112: every step keeps the law of the pacer table and what hangs on it: the calendar's
membership, FLIGHT as the count of BUSY entries, QLEN as the queue's length, the sweep queue, the ABORTING marks. -/
def Obligations.Every_step_keeps_the_table_law : Prop :=
  ∀ s t : State, OutstandingLaw s → TableLaw s → step s = .next t → TableLaw t

/-- R93: every step keeps each bound Tag Map entry, and DEFAULT_PACER, naming a pacer that is not VACANT. -/
def Obligations.Every_step_keeps_the_binding_law : Prop :=
  ∀ s t : State, TableLaw s → BindingLaw s → step s = .next t → BindingLaw t

/-- R140: every step keeps the notice-queue law: at most 32 records, and CROSS_PENDING set exactly when one crossing record of
the pacer stands in the queue. -/
def Obligations.Every_step_keeps_the_notice_law : Prop :=
  ∀ s t : State, TableLaw s → NoticeLaw s → step s = .next t → NoticeLaw t

/-- R74, R114, R127, R164, R174: every step keeps the credit sums of both ports, the capacities of the stores, the credits held
within the partner's grant, and on every packet of a lane the check word of what is sent. The lanes are the model's reading
(notes/assumptions/22.md), and the code of the check word is left open (notes/assumptions/7.md). -/
def Obligations.Every_step_keeps_the_credit_law : Prop :=
  ∀ s t : State, CreditLaw s → step s = .next t → CreditLaw t

/-- R94, R104, R118: every step keeps each outstanding entry's fields those of its state, and for each CLOSING entry one reply
item, whose cause is the entry's CLOSE_CAUSE. -/
def Obligations.Every_step_keeps_the_outstanding_law : Prop :=
  ∀ s t : State, OutstandingLaw s → step s = .next t → OutstandingLaw t

/-- R45, R143, R148: every step keeps the agent's state in agreement with its queue and its one item, manager entry 0 valid,
TICK_LEN in 5..1280, and the pacing tick in progress of a length in that range and not run out. The count of the tick's units
and of those since the last microsecond is the model's (notes/assumptions/3.md). -/
def Obligations.Every_step_keeps_the_agent_law : Prop :=
  ∀ s t : State, AgentLaw s → step s = .next t → AgentLaw t

/-! ### The step, and the layouts -/

/-- A step runs the command at the front of the queue with the queue's rest; on an empty queue the reference clock runs on to the
next whole microsecond or the end of the pacing tick, and the lanes send (the model's choice, notes/assumptions/3.md and
notes/assumptions/4.md). -/
def Obligations.Step_runs_the_front_command : Prop :=
  (∀ (c : Instr) (rest : List Instr) (s : State),
    step { s with pending := c :: rest } = exec c { s with pending := rest }) ∧
  ∀ s : State, s.pending = [] →
    step s =
      .next { s with
        clock := clockRun s,
        linkI := { s.linkI with
          lane := if s.linkI.state = .up ∨ s.linkI.state = .initWait then s.linkI.lane.drop 1 else s.linkI.lane },
        linkT := { s.linkT with
          lane := if s.linkT.state = .up ∨ s.linkT.state = .initWait then s.linkT.lane.drop 1 else s.linkT.lane } }

/-- Section 12.1: each field of a header, and each grant of an INIT and field of a CREDIT, stands at its bits; the link packets
the bridge composes have the bits of section 12.1 and 0 elsewhere (R174); and fields and bits agree both ways, so that no header bit
is dropped. -/
def Obligations.Header_fields_and_bits_agree : Prop :=
  (∀ b : BitVec 128, let h := Header.ofBits b
    h.kind.toNat = b.toNat % 2 ^ 4 ∧ h.cls.toNat = b.toNat / 2 ^ 4 % 2 ^ 2 ∧ h.pressure.toNat = b.toNat / 2 ^ 6 % 2 ^ 2 ∧
    h.beatsM1.toNat = b.toNat / 2 ^ 8 % 2 ^ 4 ∧ h.status.toNat = b.toNat / 2 ^ 12 % 2 ^ 5 ∧
    h.tag.toNat = b.toNat / 2 ^ 17 % 2 ^ 10 ∧ h.txid.toNat = b.toNat / 2 ^ 27 % 2 ^ 8 ∧
    h.detail.toNat = b.toNat / 2 ^ 35 % 2 ^ 8 ∧ h.address.toNat = b.toNat / 2 ^ 64 % 2 ^ 48 ∧
    h.trafficGrant.toNat = b.toNat / 2 ^ 64 % 2 ^ 9 ∧ h.mgmtGrant.toNat = b.toNat / 2 ^ 73 % 2 ^ 3 ∧
    h.respGrant.toNat = b.toNat / 2 ^ 76 % 2 ^ 8 ∧ h.reqGrant.toNat = b.toNat / 2 ^ 84 % 2 ^ 8 ∧
    h.creditClass.toNat = b.toNat / 2 ^ 64 % 2 ^ 2 ∧ h.creditCount.toNat = b.toNat / 2 ^ 66 % 2 ^ 8) ∧
  (∀ (tg : BitVec 9) (mg : BitVec 3) (rg qg : BitVec 8),
    (initPacket tg mg rg qg).header.toBits.toNat =
      0x8 + tg.toNat * 2 ^ 64 + mg.toNat * 2 ^ 73 + rg.toNat * 2 ^ 76 + qg.toNat * 2 ^ 84) ∧
  (∀ (cls : BitVec 2) (n : BitVec 8),
    (creditPacket cls n).header.toBits.toNat = 0x9 + cls.toNat * 2 ^ 64 + n.toNat * 2 ^ 66) ∧
  resetPacket.header.toBits.toNat = 0xA ∧
  (∀ (tag : Tag) (n : Nat), n < 256 → (alertPacket tag n).header.toBits.toNat = 0xB + tag.toNat * 2 ^ 17 + n * 2 ^ 35) ∧
  (∀ h : Header, Header.ofBits h.toBits = h) ∧ ∀ b : BitVec 128, (Header.ofBits b).toBits = b

/-- Section 12.3: each word of the window stands at its offset, the counters in their order; the offset of each word decodes to that
word, and an offset that names a word is that word's. -/
def Obligations.Window_words_and_offsets_agree : Prop :=
  (wordAt 0x0000 = some .identity ∧ wordAt 0x0008 = some .tickLen ∧ wordAt 0x0010 = some .respTimeout ∧
    wordAt 0x0018 = some .enables ∧ wordAt 0x0020 = some .defaultPacer ∧ wordAt 0x0028 = some .command ∧
    wordAt 0x0030 = some .pop ∧ wordAt 0x0038 = some .peek) ∧
  (∀ e : Fin 4, wordAt (0x0040 + 8 * e.val) = some (.manager e)) ∧
  (∀ c : Fin 16, wordAt (0x0080 + 8 * c.val) = some (.counter c)) ∧
  [Counter.retry, .unmapped, .retiring, .window, .malformed, .denied, .postedDrops, .stale, .late, .mismatch, .orphanDiscards,
    .timeouts, .aborted, .linkResetsI, .linkResetsT, .mgmtPostedDrops].map Counter.index = List.finRange 16 ∧
  (∀ (p : PacerId) (w : Fin 7),
    wordAt (0x1000 + p.val * 0x80 + 8 * w.val) = some (.config p w) ∧
      wordAt (0x1000 + p.val * 0x80 + 0x38 + 8 * w.val) = some (.dynamic p w)) ∧
  (∀ t : Tag, wordAt (0x6000 + t.toNat * 8) = some (.tagMap t)) ∧
  (∀ n : EntryId, wordAt (0x8000 + n.val * 8) = some (.outstanding n)) ∧
  (∀ w : WindowWord, wordAt w.offset = some w) ∧
  ∀ (k : Nat) (w : WindowWord), wordAt (8 * k) = some w → w.offset = 8 * k

/-- Section 12.3.1, R17, R175: each configuration field stands at its bits of its word, on a read and on a write; a word written
reads back the bits of its fields and no others, and no other word's fields move. -/
def Obligations.Configuration_words_read_back : Prop :=
  ∀ (c : PacerConfig) (v : MgmtWord),
    ((configWord c 0).extractLsb' 0 16 = c.spaceMin ∧ (configWord c 1).extractLsb' 0 16 = c.spaceMax ∧
    (configWord c 2).extractLsb' 0 16 = c.spaceStart ∧ (configWord c 3).extractLsb' 0 4 = c.upShift ∧
    (configWord c 3).extractLsb' 8 4 = c.downShift ∧ (configWord c 3).extractLsb' 16 8 = c.window ∧
    (configWord c 3).extractLsb' 24 8 = c.markLimit ∧ (configWord c 4).extractLsb' 0 16 = c.slowAt ∧
    (configWord c 4).extractLsb' 16 16 = c.slowBand ∧ (configWord c 5).extractLsb' 0 16 = c.idleLimit ∧
    (configWord c 5).extractLsb' 16 16 = c.drainSpace ∧ (configWord c 5).extractLsb' 32 2 = c.priority ∧
    (configWord c 6).extractLsb' 0 8 = c.flightCap ∧ (configWord c 6).extractLsb' 16 9 = c.queueLimit) ∧
    ((configWithWord c 0 v).spaceMin = v.extractLsb' 0 16 ∧ (configWithWord c 1 v).spaceMax = v.extractLsb' 0 16 ∧
    (configWithWord c 2 v).spaceStart = v.extractLsb' 0 16 ∧ (configWithWord c 3 v).upShift = v.extractLsb' 0 4 ∧
    (configWithWord c 3 v).downShift = v.extractLsb' 8 4 ∧ (configWithWord c 3 v).window = v.extractLsb' 16 8 ∧
    (configWithWord c 3 v).markLimit = v.extractLsb' 24 8 ∧ (configWithWord c 4 v).slowAt = v.extractLsb' 0 16 ∧
    (configWithWord c 4 v).slowBand = v.extractLsb' 16 16 ∧ (configWithWord c 5 v).idleLimit = v.extractLsb' 0 16 ∧
    (configWithWord c 5 v).drainSpace = v.extractLsb' 16 16 ∧ (configWithWord c 5 v).priority = v.extractLsb' 32 2 ∧
    (configWithWord c 6 v).flightCap = v.extractLsb' 0 8 ∧ (configWithWord c 6 v).queueLimit = v.extractLsb' 16 9) ∧
    configWord (configWithWord c 0 v) 0 = v &&& 0xFFFF ∧ configWord (configWithWord c 1 v) 1 = v &&& 0xFFFF ∧
    configWord (configWithWord c 2 v) 2 = v &&& 0xFFFF ∧ configWord (configWithWord c 3 v) 3 = v &&& 0xFFFF0F0F ∧
    configWord (configWithWord c 4 v) 4 = v &&& 0xFFFFFFFF ∧ configWord (configWithWord c 5 v) 5 = v &&& 0x3FFFFFFFF ∧
    configWord (configWithWord c 6 v) 6 = v &&& 0x1FF00FF ∧
    ∀ w u : Fin 7, w ≠ u → configWord (configWithWord c w v) u = configWord c u

/-- Section 12.3, R111, R175, R176: the seven dynamic words of a pacer, a word of the outstanding view and the command word show each
field at its bits, with the codes of STATE and RETIRE_MODE, and 0 in every bit outside their fields. -/
def Obligations.Words_show_their_fields : Prop :=
  [PacerState.vacant, .staged, .live, .paused, .draining, .sweeping].map PacerState.code = [0, 1, 2, 3, 4, 5] ∧
  [none, some RetireMode.flush, some .discard].map retireModeCode = [0, 1, 2] ∧
  [EntryState.free, .busy, .closing, .quarantine].map EntryState.code = [0, 1, 2, 3] ∧
  (∀ c : Pacer,
    (dynamicWord c 0).extractLsb' 0 3 = c.state.code ∧ (dynamicWord c 0).extractLsb' 4 2 = retireModeCode c.retireMode ∧
    (dynamicWord c 0).getLsbD 8 = c.demand ∧ (dynamicWord c 0).getLsbD 9 = c.slow ∧
    (dynamicWord c 0).getLsbD 10 = c.crossPending ∧ (dynamicWord c 0).extractLsb' 16 16 = c.spacing ∧
    dynamicWord c 0 &&& 0xFFFFFFFF0000F8C8 = 0 ∧
    dynamicWord c 1 = c.due ∧ dynamicWord c 2 = c.lastDepart ∧
    (dynamicWord c 3).extractLsb' 0 8 = BitVec.ofNat 8 c.flight ∧
    (dynamicWord c 3).extractLsb' 16 9 = BitVec.ofNat 9 c.qlen ∧
    (dynamicWord c 3).extractLsb' 32 7 = BitVec.ofNat 7 c.winCount ∧
    (dynamicWord c 3).extractLsb' 40 7 = BitVec.ofNat 7 c.winMarks ∧
    dynamicWord c 3 &&& 0xFFFF8080FE00FF00 = 0 ∧
    dynamicWord c 4 = c.departCount.setWidth 64 ∧ dynamicWord c 5 = c.beatCount.setWidth 64 ∧
    dynamicWord c 6 = c.refuseCount.setWidth 64) ∧
  (∀ e : Entry,
    (entryWord e).extractLsb' 0 2 = e.state.code ∧ (entryWord e).extractLsb' 8 7 = BitVec.ofNat 7 e.pacer.val ∧
    (entryWord e).extractLsb' 16 10 = e.tag ∧ (entryWord e).extractLsb' 32 8 = e.upTxid ∧
    entryWord e &&& 0xFFFFFF00FC0080FC = 0) ∧
  ∀ c : LastCommand,
    (lastCommandWord c).extractLsb' 0 8 = c.code ∧ (lastCommandWord c).extractLsb' 8 8 = c.pacer ∧
    (lastCommandWord c).extractLsb' 16 16 = c.operand ∧ (lastCommandWord c).extractLsb' 32 8 = c.outcome ∧
    (lastCommandWord c).getLsbD 63 = c.valid ∧ lastCommandWord c &&& 0x7FFFFF0000000000 = 0

/-! ### Spacing adaptation -/

/-- R23, R24: the increase step lowers SPACING by SPACING / 2^UP_SHIFT, at least 1, to SPACE_MIN at least; the decrease step raises
it by SPACING / 2^DOWN_SHIFT, at least 1, the sum formed in full, to SPACE_MAX at most; at its own bound neither changes anything. -/
def Obligations.Increase_and_decrease_steps_move_spacing : Prop :=
  ∀ c : Pacer,
    increaseStep c =
      { c with
        spacing :=
          BitVec.ofNat 16
            (max c.cfg.spaceMin.toNat (c.spacing.toNat - max 1 (c.spacing.toNat / 2 ^ c.cfg.upShift.toNat))) } ∧
    decreaseStep c =
      { c with
        spacing :=
          BitVec.ofNat 16
            (min c.cfg.spaceMax.toNat (c.spacing.toNat + max 1 (c.spacing.toNat / 2 ^ c.cfg.downShift.toNat))) } ∧
    (c.spacing = c.cfg.spaceMin → increaseStep c = c) ∧ (c.spacing = c.cfg.spaceMax → decreaseStep c = c)

/-- R22, R26 to R30: what a counted response of a pacer does. Outside LIVE and PAUSED nothing; HEAVY a decrease step and a
window restart; HALT SPACE_MAX and a restart; CLEAR and LIGHT a tally, and at WINDOW the judgement of the window and a restart;
and then the crossing check. -/
def Obligations.Counted_response_acts_by_its_mark : Prop :=
  ∀ (p : PacerId) (s : State), let c := s.pacer p
    (∀ m, adapts c = false → countedResponse p m s = s) ∧
    (adapts c = true →
      countedResponse p .heavy s = crossingCheck p (s.setPacer p (restarted c (decreaseStep c).spacing))) ∧
    (adapts c = true → countedResponse p .halt s = crossingCheck p (s.setPacer p (restarted c c.cfg.spaceMax))) ∧
    ∀ (m : Pressure) (k : Nat), (m = .clear ∧ k = 0) ∨ (m = .light ∧ k = 1) → adapts c = true →
      (c.winCount + 1 ≠ c.cfg.window.toNat →
        countedResponse p m s =
          s.setPacer p { c with winCount := c.winCount + 1, winMarks := c.winMarks + k }) ∧
      (c.winCount + 1 = c.cfg.window.toNat →
        countedResponse p m s =
          crossingCheck p (s.setPacer p (restarted c
            (if c.cfg.markLimit.toNat ≤ c.winMarks + k then (decreaseStep c).spacing
              else if c.winMarks + k = 0 ∧ c.demand = true then (increaseStep c).spacing
              else c.spacing))))

/-- R36, R37: the crossing check of a pacer with a legal configuration: what each case of SLOW, SPACING, SLOW_AT and
SLOW_BAND does. -/
def Obligations.Crossing_check_moves_slow : Prop :=
  ∀ (p : PacerId) (s : State), let c := s.pacer p
    legal c.cfg = true →
    (c.slow = false → c.cfg.slowAt ≠ 0 → c.cfg.slowAt.toNat < c.spacing.toNat →
      crossingCheck p s = crossing p (.slow p c.spacing) (s.setPacer p { c with slow := true })) ∧
    (c.slow = false → c.cfg.slowAt = 0 ∨ c.spacing.toNat ≤ c.cfg.slowAt.toNat → crossingCheck p s = s) ∧
    (c.slow = true → c.cfg.slowAt = 0 ∨ c.spacing.toNat + c.cfg.slowBand.toNat ≤ c.cfg.slowAt.toNat →
      crossingCheck p s = crossing p (.recovered p c.spacing) (s.setPacer p { c with slow := false })) ∧
    (c.slow = true → c.cfg.slowAt ≠ 0 → c.cfg.slowAt.toNat < c.spacing.toNat + c.cfg.slowBand.toNat →
      crossingCheck p s = s)

/-! ### Notices and alerts -/

/-- R38, R130, R132: a crossing of pacer p is discarded while its kind is disabled; cancels p's pending record; is entered,
setting CROSS_PENDING; or is lost to a full queue, setting OVERFLOW. -/
def Obligations.Crossing_is_cancelled_entered_or_lost : Prop :=
  ∀ (p : PacerId) (b : NoticeBody) (s : State), b.crossingOf = some p →
    (s.noticeEnable b.kind = false → crossing p b s = s) ∧
    (s.noticeEnable b.kind = true → (s.pacer p).crossPending = true →
      crossing p b s =
        { s.setPacer p { s.pacer p with crossPending := false } with
          notices :=
            { s.notices with records := s.notices.records.filter (fun r => r.body.crossingOf != some p) } }) ∧
    (s.noticeEnable b.kind = true → (s.pacer p).crossPending = false → s.notices.records.length < 32 →
      crossing p b s = (s.plainNotice b).setPacer p { s.pacer p with crossPending := true }) ∧
    (s.noticeEnable b.kind = true → (s.pacer p).crossPending = false → 32 ≤ s.notices.records.length →
      crossing p b s = { s with notices := { s.notices with overflow := true } })

/-- R128, R130, R131, R136: a notice handed over is discarded while its kind is disabled; entered at the tail with its stamp;
or lost to a full queue. An entry into an empty queue, with ALERT_ENABLE and ALERT_ARMED set, sends an ALERT on an UP port and
makes one pending on another. -/
def Obligations.Notice_is_entered_or_lost : Prop :=
  ∀ (b : NoticeBody) (s : State),
    (s.noticeEnable b.kind = false → s.plainNotice b = s) ∧
    (s.noticeEnable b.kind = true → 32 ≤ s.notices.records.length →
      s.plainNotice b = { s with notices := { s.notices with overflow := true } }) ∧
    (s.noticeEnable b.kind = true → s.notices.records.length < 32 →
      s.notices.records ≠ [] ∨ s.agent.enables.getLsbD 7 = false ∨ s.notices.alertArmed = false →
      s.plainNotice b =
        { s with
          notices :=
            { s.notices with
              records := s.notices.records ++ [⟨b, s.clock.pacingTime.setWidth 32⟩] } }) ∧
    (s.noticeEnable b.kind = true → s.notices.records = [] → s.agent.enables.getLsbD 7 = true →
      s.notices.alertArmed = true → s.linkI.state = .up →
      s.plainNotice b =
        { s with
          notices :=
            { s.notices with records := [⟨b, s.clock.pacingTime.setWidth 32⟩], alertArmed := false },
          linkI := { s.linkI with lane := s.linkI.lane ++ [(alertPacket (s.manager 0).tag 1).wire] } }) ∧
    (s.noticeEnable b.kind = true → s.notices.records = [] → s.agent.enables.getLsbD 7 = true →
      s.notices.alertArmed = true → s.linkI.state ≠ .up →
      s.plainNotice b =
        { s with
          notices :=
            { s.notices with
              records := [⟨b, s.clock.pacingTime.setWidth 32⟩], alertArmed := false, alertPending := true } })

/-! ### Drains, the calendar and DISCARD processing -/

/-- R15, R88: the drain completion check. A DRAINING pacer with QLEN and FLIGHT 0 becomes SWEEPING and joins the sweep queue's
tail, or is taken at once by an idle Sweeper; any other pacer is left. -/
def Obligations.Drain_completes_at_zero : Prop :=
  ∀ (p : PacerId) (s : State),
    (¬((s.pacer p).state = .draining ∧ (s.pacer p).qlen = 0 ∧ (s.pacer p).flight = 0) → drainCheck p s = s) ∧
    ((s.pacer p).state = .draining → (s.pacer p).qlen = 0 → (s.pacer p).flight = 0 →
      (s.sweeper.cursor = .idle → s.sweeper.queue = []) →
      drainCheck p s =
        { s.setPacer p { s.pacer p with state := .sweeping, retireMode := none } with
          sweeper :=
            if s.sweeper.cursor = .idle then { queue := [], cursor := .defaultStep p }
            else { s.sweeper with queue := s.sweeper.queue ++ [p] } })

/-- R47: settling puts a pacer on the calendar exactly on the terms, moves no other pacer, keeps the order, and changes
nothing else. -/
def Obligations.Calendar_is_settled_by_the_terms : Prop :=
  ∀ (p : PacerId) (s : State), s.calendar.Pairwise (· < ·) →
    { settleCalendar p s with calendar := s.calendar } = s ∧
    (settleCalendar p s).calendar.Pairwise (· < ·) ∧
    (∀ q, q ≠ p → (q ∈ (settleCalendar p s).calendar ↔ q ∈ s.calendar)) ∧
    (p ∈ (settleCalendar p s).calendar ↔
      ((s.pacer p).state = .live ∨ ((s.pacer p).state = .draining ∧ (s.pacer p).retireMode = some .flush)) ∧
        0 < (s.pacer p).qlen ∧ (s.pacer p).flight < (s.pacer p).cfg.flightCap.toNat)

/-- R69: DISCARD processing drops the posted writes at the head, each returning a credit and counted; it marks the first READ or
WRITE and puts its ABORTED item on the Reply List, or leaves one marked already; and the drain is checked. -/
def Obligations.Discard_processing_takes_the_head : Prop :=
  ∀ (p : PacerId) (s : State) (posted rest : List HoldSlot), s.queue p = posted ++ rest →
    (∀ x ∈ posted, isPosted x.request = true) →
    (rest = [] →
      processDiscard p s =
        drainCheck p
          { s.setPacer p { s.pacer p with qlen := (s.pacer p).qlen - posted.length } with
            queues := tableSet s.queues p [], creditsI := creditsAfterSlots s posted.length,
            agent :=
              { s.agent with
                counters :=
                  tableSet s.agent.counters Counter.postedDrops.index
                    (saturatingSucc^[posted.length] (s.counter .postedDrops)) } }) ∧
    ∀ (h : HoldSlot) (tail : List HoldSlot), rest = h :: tail → isPosted h.request = false →
      processDiscard p s =
        drainCheck p
          { s.setPacer p { s.pacer p with qlen := (s.pacer p).qlen - posted.length } with
            queues := tableSet s.queues p ({ h with aborting := true } :: tail),
            creditsI := creditsAfterSlots s posted.length,
            replies := if h.aborting then s.replies else s.replies ++ [.aborted p],
            agent :=
              { s.agent with
                counters :=
                  tableSet s.agent.counters Counter.postedDrops.index
                    (saturatingSucc^[posted.length] (s.counter .postedDrops)) } }

/-- R121, R174: a bridge-made response answers the kind of its request, a READ_DATA with one beat and a WRITE_DONE with none;
it carries the class, tag, TXID, status and detail given, and 0 in every other field. -/
def Obligations.Bridge_made_response_is_composed : Prop :=
  ∀ (read : Bool) (cls : BitVec 2) (tag : Tag) (txid : Txid) (status : BitVec 5) (detail : BitVec 8) (beat : Beat),
    bridgeResponse read cls tag txid status detail beat =
      { header :=
          { kind := if read then 4 else 5, cls := cls, pressure := 0, beatsM1 := 0, status := status, tag := tag,
            txid := txid, detail := detail, unusedLow := 0, address := 0, unusedHigh := 0 },
        data := if read then [beat] else [] }

/-! ### Reset and the clock -/

/-- R1, R2, R44, R46, R62, R76, R77, R88, R94, R113, R118, R128, R136, R142, R147, R153, R155, R156, R159: what reset leaves.
That no units of 4 ns have passed since the last microsecond or in the pacing tick, whose length is 25, is the model's choice
(notes/assumptions/3.md), and so are the empty lanes (notes/assumptions/2.md). The sampled straps' own values before RESET_N is
released are the model's and not stated (notes/assumptions/1.md). -/
def Obligations.Reset_values : Prop :=
  PowerOnBlocks State.reset ∧
    (State.reset.linkI = { state := .down, resend := none, lane := [] }) ∧
    (State.reset.linkT = { state := .down, resend := none, lane := [] }) ∧
    (State.reset.creditsI =
      { givenTraffic := 0, givenMgmt := 0, returnTraffic := 0, returnMgmt := 0, heldResp := 0, grantResp := 0 }) ∧
    (State.reset.creditsT = { givenResp := 0, returnResp := 0, heldReq := 0, grantReq := 0 }) ∧
    State.reset.pins.resetN = false

/-- R159, R160 and the power-on rules of every block: POWER_ON_RESET samples the straps, puts every block at its power-on value,
and has each port grant its credits in an INIT and enter INIT_WAIT. That the commands that wait stay, and that each lane
holds nothing but its INIT, is the model's choice (notes/assumptions/2.md), and so is that no units of 4 ns have passed since the
last microsecond or in the pacing tick, whose length is 25 (notes/assumptions/3.md). -/
def Obligations.Power_on_reset_starts_the_part : Prop :=
  ∀ (wbase : BitVec 4) (pmtag : Tag) (s : State), ∃ t : State,
    exec (.powerOnReset wbase pmtag) s = .next t ∧ PowerOnBlocks t ∧
    t.pins = { resetN := true, wbase := wbase, pmtag := pmtag } ∧ t.manager 0 = { valid := true, tag := pmtag } ∧
    t.linkI = { state := .initWait, resend := some 1000, lane := [(initPacket 256 4 0 0).wire] } ∧
    t.linkT = { state := .initWait, resend := some 1000, lane := [(initPacket 0 0 24 0).wire] } ∧
    t.creditsI =
      { givenTraffic := 256, givenMgmt := 4, returnTraffic := 0, returnMgmt := 0, heldResp := 0, grantResp := 0 } ∧
    t.creditsT = { givenResp := 24, returnResp := 0, heldReq := 0, grantReq := 0 } ∧
    t.pending = s.pending

/-- R44: a pacing tick raises the pacing time by 1, and changes no other block. That what is left of the tick in progress passes on
the device time, and that the next tick takes the present TICK_LEN, is the model's reading of R45 and R95 (notes/assumptions/3.md),
and so is the tick that does nothing while RESET_N is low (notes/assumptions/9.md). -/
def Obligations.Pacing_tick_advances_the_clock : Prop :=
  ∀ s : State,
    (s.pins.resetN = true →
      exec .pacingTick s = .next { s with clock := clockAtTick s (s.clock.tickSpan - s.clock.tickPast) }) ∧
    (s.pins.resetN = false → exec .pacingTick s = .next s)

/-! ### Traffic requests -/

/-- R63, R83, R84, R87: a traffic request that passes the checks joins the tail of the queue of the pacer named for its tag;
one credit is used; a LIVE pacer whose queue was empty, below its cap, joins the calendar with DUE the larger of DUE and now. -/
def Obligations.Traffic_request_is_admitted : Prop :=
  ∀ (pkt : Packet) (s : State) (p : PacerId), s.linkI.state = .up → 0 < s.creditsI.givenTraffic →
    pkt.isRequestOf classTraffic = true → RangeFits pkt.header → ¬RangeMeetsWindow s.pins.wbase pkt.header →
    Names s pkt.header.tag p → bindable (s.pacer p) = true →
    (s.pacer p).qlen < (s.pacer p).cfg.queueLimit.toNat →
    exec (.trafficArrival pkt) s =
      .next { s with
        creditsI := { s.creditsI with givenTraffic := s.creditsI.givenTraffic - 1 },
        queues := tableSet s.queues p (s.queue p ++ [{ request := pkt, aborting := false }]),
        pacers :=
          tableSet s.pacers p
            { s.pacer p with
              qlen := (s.pacer p).qlen + 1,
              due :=
                if (s.pacer p).state = .live ∧ (s.pacer p).qlen = 0 ∧
                    (s.pacer p).flight < (s.pacer p).cfg.flightCap.toNat then
                  laterTime (s.pacer p).due s.clock.pacingTime
                else (s.pacer p).due },
        calendar :=
          if (s.pacer p).state = .live ∧ (s.pacer p).qlen = 0 ∧
              (s.pacer p).flight < (s.pacer p).cfg.flightCap.toNat then
            insertPacer p s.calendar
          else s.calendar }

/-- R66, R83 to R86: a refused traffic request raises its cause's counter and, for RETIRING and RETRY, the pacer's
REFUSE_COUNT; a READ or WRITE keeps its slot under a refusal item; a WRITE_P frees its slot at once with one credit returned and
the posted-drop counter raised. -/
def Obligations.Traffic_request_is_refused : Prop :=
  ∀ (pkt : Packet) (s : State) (cause : RefusalCause) (p : Option PacerId), s.linkI.state = .up →
    0 < s.creditsI.givenTraffic → pkt.isRequestOf classTraffic = true → Refuses s pkt.header cause p →
    (isPosted pkt = false →
      exec (.trafficArrival pkt) s =
        .next { withRefusalCounted (s.bump cause.counter) p with
          creditsI := { s.creditsI with givenTraffic := s.creditsI.givenTraffic - 1 },
          replies := s.replies ++ [.refusal pkt cause p] }) ∧
    (isPosted pkt = true →
      exec (.trafficArrival pkt) s =
        .next { (withRefusalCounted (s.bump cause.counter) p).bump .postedDrops with
          creditsI := { s.creditsI with returnTraffic := s.creditsI.returnTraffic + 1 } })

/-! ### Target responses -/

/-- R98, R99, R100: a STALE, LATE or MISMATCH response is discarded and counted, and its credit returned. A LATE one frees a
QUARANTINE entry or clears QUARANTINE_ON_CLOSE of a CLOSING one; a MISMATCH hands over its notice; no pacer changes. -/
def Obligations.Response_is_discarded : Prop :=
  ∀ (pkt : Packet) (s : State), s.linkT.state = .up → 0 < s.creditsT.givenResp → pkt.isResponse = true →
    (128 ≤ pkt.header.txid.toNat ∨
        (∃ n : EntryId, n.val = pkt.header.txid.toNat ∧
          ((s.entry n).state = .free ∨
            (((s.entry n).state = .quarantine ∨ (s.entry n).state = .closing) ∧
              pkt.header.tag ≠ (s.entry n).tag))) →
      exec (.targetResponse pkt) s =
        .next { s.bump .stale with creditsT := { s.creditsT with returnResp := s.creditsT.returnResp + 1 } }) ∧
    ∀ n : EntryId, n.val = pkt.header.txid.toNat →
      ((s.entry n).state = .quarantine → pkt.header.tag = (s.entry n).tag →
        exec (.targetResponse pkt) s =
          .next { (s.setEntry n (freed (s.entry n))).bump .late with
            creditsT := { s.creditsT with returnResp := s.creditsT.returnResp + 1 } }) ∧
      ((s.entry n).state = .closing → pkt.header.tag = (s.entry n).tag →
        exec (.targetResponse pkt) s =
          .next { (s.setEntry n { s.entry n with quarantineOnClose := false }).bump .late with
            creditsT := { s.creditsT with returnResp := s.creditsT.returnResp + 1 } }) ∧
      ((s.entry n).state = .busy → ¬FitsEntry pkt (s.entry n) →
        exec (.targetResponse pkt) s =
          .next { (s.bump .mismatch).plainNotice (.mismatch (s.entry n).pacer pkt.header.tag) with
            creditsT := { s.creditsT with returnResp := s.creditsT.returnResp + 1 } })

/-- R101, R102: a response that fits a BUSY entry of pacer p is handed to p's adaptation, lowers p's FLIGHT and frees the entry;
it goes to the Response Buffer under UP_TXID, or if the entry is ORPHAN is discarded, counted and its credit returned; then p's
calendar place and drain are settled. That a WRITE_DONE fits whatever its beats, as Note 2 of R97 says against row 4 of R110, is the
model's choice (notes/assumptions/25.md). -/
def Obligations.Response_is_matched : Prop :=
  ∀ (pkt : Packet) (s : State) (n : EntryId), s.linkT.state = .up → 0 < s.creditsT.givenResp →
    pkt.isResponse = true → n.val = pkt.header.txid.toNat → (s.entry n).state = .busy → FitsEntry pkt (s.entry n) →
    let p := (s.entry n).pacer
    let a := countedResponse p (Pressure.ofCode pkt.header.pressure) s
    let b := (a.setPacer p { a.pacer p with flight := (a.pacer p).flight - 1 }).setEntry n (freed (s.entry n))
    ((s.entry n).orphan = false →
      exec (.targetResponse pkt) s =
        .next (drainCheck p (settleCalendar p
          { b with
            creditsT := { s.creditsT with givenResp := s.creditsT.givenResp - 1 },
            responses :=
              s.responses ++
                [{ packet := { pkt with header := { pkt.header with txid := (s.entry n).upTxid } },
                   origin := .target }] }))) ∧
    ((s.entry n).orphan = true →
      exec (.targetResponse pkt) s =
        .next (drainCheck p (settleCalendar p
          { b.bump .orphanDiscards with
            creditsT := { s.creditsT with returnResp := s.creditsT.returnResp + 1 } })))

/-! ### Link ports -/

/-- R162: the partner's INIT, with a grant above 0, brings a port from INIT_WAIT to UP: the grant is recorded, the timer stops,
the returns go out in CREDIT packets and on Link port I a pending ALERT follows.
That Link port I's traffic CREDIT packets go before its management one is the model's choice (notes/assumptions/15.md). -/
def Obligations.Init_brings_the_port_up : Prop :=
  ∀ (tg : BitVec 9) (mg : BitVec 3) (rg qg : BitVec 8) (s : State),
    (s.linkI.state = .initWait → rg ≠ 0 →
      exec (.initArrival .i tg mg rg qg) s =
        .next { s with
          creditsI :=
            { s.creditsI with heldResp := rg.toNat, grantResp := rg.toNat, returnTraffic := 0, returnMgmt := 0 },
          notices := { s.notices with alertPending := false },
          linkI :=
            { state := .up, resend := none,
              lane :=
                s.linkI.lane ++ creditTrain creditTraffic s.creditsI.returnTraffic ++
                  creditTrain creditMgmt s.creditsI.returnMgmt ++
                  (if s.notices.alertPending then [(alertPacket (s.manager 0).tag s.notices.records.length).wire]
                    else []) } }) ∧
    (s.linkT.state = .initWait → qg ≠ 0 →
      exec (.initArrival .t tg mg rg qg) s =
        .next { s with
          creditsT := { s.creditsT with heldReq := qg.toNat, grantReq := qg.toNat, returnResp := 0 },
          linkT :=
            { state := .up, resend := none,
              lane := s.linkT.lane ++ creditTrain creditResponse s.creditsT.returnResp } })

/-- R164: a CREDIT of the partner's class that stays within its grant raises the held count, one of count 0 changes nothing,
and any other is a fault, after which the port is in FAULT.
What a CREDIT of another class or of count 0 does is read from both rules (notes/assumptions/18.md). -/
def Obligations.Credit_is_taken_or_a_fault : Prop :=
  ∀ (cls : BitVec 2) (count : BitVec 8) (s : State),
    (s.linkI.state = .up → cls = creditResponse → s.creditsI.heldResp + count.toNat ≤ s.creditsI.grantResp →
      exec (.creditArrival .i cls count) s =
        .next { s with creditsI := { s.creditsI with heldResp := s.creditsI.heldResp + count.toNat } }) ∧
    (s.linkT.state = .up → cls = creditRequest → s.creditsT.heldReq + count.toNat ≤ s.creditsT.grantReq →
      exec (.creditArrival .t cls count) s =
        .next { s with creditsT := { s.creditsT with heldReq := s.creditsT.heldReq + count.toNat } }) ∧
    (∀ p : PortId, (s.link p).state = .up → count = 0 → exec (.creditArrival p cls count) s = .next s) ∧
    ∀ p : PortId, (s.link p).state = .up → FaultyCredit s p (creditPacket cls count).header →
      ∃ t, exec (.creditArrival p cls count) s = .next t ∧ (t.link p).state = .fault

/-- R169, R170 with R15, R48, R72, R107, R122, R138, R157: a sound RESET at Link port I. From UP and INIT_WAIT the port ends in
INIT_WAIT with an INIT granting 256 and 4; from FAULT it stays there with its counts 0; in DOWN nothing is taken.
An entry given up on keeps its two flags, as the model reads R107 (notes/assumptions/13.md). -/
def Obligations.Reset_arrives_on_port_I : Prop :=
  ∀ s : State,
    (s.linkI.state = .up ∨ s.linkI.state = .initWait →
      ∃ t, exec (.resetArrival .i) s = .next t ∧ AfterResetI s t ∧
        t.linkI =
          { state := .initWait, resend := some (s.clock.deviceTime + 1000),
            lane := keptOnLane s.linkI.lane ++ [(initPacket 256 4 0 0).wire] } ∧
        t.creditsI =
          { givenTraffic := 256, givenMgmt := 4, returnTraffic := 0, returnMgmt := 0, heldResp := 0,
            grantResp := 0 }) ∧
    (s.linkI.state = .fault →
      ∃ t, exec (.resetArrival .i) s = .next t ∧ AfterResetI s t ∧
        t.linkI = { s.linkI with lane := keptOnLane s.linkI.lane } ∧
        t.creditsI =
          { givenTraffic := 0, givenMgmt := 0, returnTraffic := 0, returnMgmt := 0, heldResp := 0, grantResp := 0 }) ∧
    (s.linkI.state = .down → exec (.resetArrival .i) s = .next s)

/-- R169, R170 with R15, R48, R106, R124: a sound RESET at Link port T. From UP and INIT_WAIT the port ends in INIT_WAIT with an
INIT granting 24 less the target-origin responses; from FAULT it stays there with its counts 0; in DOWN nothing is taken.
Each FLIGHT is set to 0 in one go (notes/assumptions/14.md). -/
def Obligations.Reset_arrives_on_port_T : Prop :=
  ∀ s : State,
    (s.linkT.state = .up ∨ s.linkT.state = .initWait →
      ∃ t, exec (.resetArrival .t) s = .next t ∧ AfterResetT s t ∧
        t.linkT =
          { state := .initWait, resend := some (s.clock.deviceTime + 1000),
            lane := keptOnLane s.linkT.lane ++ [(initPacket 0 0 (BitVec.ofNat 8 (24 - s.targetCount)) 0).wire] } ∧
        t.creditsT = { givenResp := 24 - s.targetCount, returnResp := 0, heldReq := 0, grantReq := 0 }) ∧
    (s.linkT.state = .fault →
      ∃ t, exec (.resetArrival .t) s = .next t ∧ AfterResetT s t ∧
        t.linkT = { s.linkT with lane := keptOnLane s.linkT.lane } ∧
        t.creditsT = { givenResp := 0, returnResp := 0, heldReq := 0, grantReq := 0 }) ∧
    (s.linkT.state = .down → exec (.resetArrival .t) s = .next s)

/-- Every row that stands for an arrival does what the FAULT row does with its packet and an agreeing check word, in every state of
the port; so the statements about that row's discards and faults hold of each (the model's reading, notes/assumptions/6.md and
notes/assumptions/16.md). -/
def Obligations.Arrival_rows_are_their_packets_arriving : Prop :=
  ∀ (c : Instr) (s : State) (p : PortId) (pkt : Packet), arrivalOf s c = some (p, pkt) →
    exec c s = exec (.fault p pkt.header.toBits pkt.data (Config.checkWord pkt.header.toBits pkt.data)) s

/-- R166, R167, R168: a packet that is a fault of its port puts the port in FAULT with a RESET on its lane and performs a link
reset; in FAULT anything but a sound RESET is discarded, and in DOWN everything is.
The row as any packet, and the CREDIT faults, are the model's reading (notes/assumptions/16.md, notes/assumptions/18.md), and the code
of the check word is left open (notes/assumptions/7.md). Of the link reset, that an entry given up on keeps its two flags is the
model's reading of R107 (notes/assumptions/13.md), and each FLIGHT is set to 0 in one go (notes/assumptions/14.md). -/
def Obligations.Faulty_packet_starts_the_fault_sequence : Prop :=
  ∀ (header : BitVec 128) (data : List Beat) (check : CheckWord) (s : State),
    let pkt : Packet := { header := Header.ofBits header, data := data }
    (Faulty s .i pkt check →
      ∃ t, exec (.fault .i header data check) s = .next t ∧ AfterResetI s t ∧
        t.linkI = { state := .fault, resend := none, lane := keptOnLane s.linkI.lane ++ [resetPacket.wire] } ∧
        t.creditsI =
          { givenTraffic := 0, givenMgmt := 0, returnTraffic := 0, returnMgmt := 0, heldResp := 0, grantResp := 0 }) ∧
    (Faulty s .t pkt check →
      ∃ t, exec (.fault .t header data check) s = .next t ∧ AfterResetT s t ∧
        t.linkT = { state := .fault, resend := none, lane := keptOnLane s.linkT.lane ++ [resetPacket.wire] } ∧
        t.creditsT = { givenResp := 0, returnResp := 0, heldReq := 0, grantReq := 0 }) ∧
    ∀ p : PortId,
      (s.link p).state = .down ∨ ((s.link p).state = .fault ∧ ¬(Sound pkt check ∧ pkt.kind? = some .reset)) →
      exec (.fault p header data check) s = .next s

/-- R160, R161, R168: the sending of the fault's RESET, and the resend timer's expiry, each send an INIT that grants what is free
at that moment, with the RETURN counts 0 and the timer 1000 µs ahead; out of FAULT, and before the expiry, they do nothing
(the model's choice, notes/assumptions/5.md). -/
def Obligations.Init_is_sent_after_a_fault_and_again : Prop :=
  ∀ s : State,
    let creditsI : CreditsI :=
      { s.creditsI with
        givenTraffic := 256 - s.occupiedSlots, givenMgmt := 4 - s.mgmtQueue.length, returnTraffic := 0,
        returnMgmt := 0 }
    let initI := initPacket (BitVec.ofNat 9 (256 - s.occupiedSlots)) (BitVec.ofNat 3 (4 - s.mgmtQueue.length)) 0 0
    let creditsT : CreditsT := { s.creditsT with givenResp := 24 - s.targetCount, returnResp := 0 }
    let initT := initPacket 0 0 (BitVec.ofNat 8 (24 - s.targetCount)) 0
    let ahead := some (s.clock.deviceTime + 1000)
    (s.linkI.state = .fault →
      exec (.faultResetSent .i) s =
        .next { s with
          creditsI := creditsI,
          linkI := { state := .initWait, resend := ahead, lane := withoutReset s.linkI.lane ++ [initI.wire] } }) ∧
    (s.linkT.state = .fault →
      exec (.faultResetSent .t) s =
        .next { s with
          creditsT := creditsT,
          linkT := { state := .initWait, resend := ahead, lane := withoutReset s.linkT.lane ++ [initT.wire] } }) ∧
    (∀ d, s.linkI.state = .initWait → s.linkI.resend = some d → d ≤ s.clock.deviceTime →
      exec (.initResend .i) s =
        .next { s with
          creditsI := creditsI, linkI := { s.linkI with resend := ahead, lane := s.linkI.lane ++ [initI.wire] } }) ∧
    (∀ d, s.linkT.state = .initWait → s.linkT.resend = some d → d ≤ s.clock.deviceTime →
      exec (.initResend .t) s =
        .next { s with
          creditsT := creditsT, linkT := { s.linkT with resend := ahead, lane := s.linkT.lane ++ [initT.wire] } }) ∧
    ∀ p : PortId,
      ((s.link p).state ≠ .fault → exec (.faultResetSent p) s = .next s) ∧
      ((s.link p).state ≠ .initWait ∨ (∀ d, (s.link p).resend = some d → s.clock.deviceTime < d) →
        exec (.initResend p) s = .next s)

/-- R165: an UP port with a RETURN count above 0 sends one CREDIT packet of the class carrying the count, or 255, and lowers the
count by as much; otherwise nothing is sent (the model's choice, notes/assumptions/5.md). -/
def Obligations.Credit_packet_carries_the_returns : Prop :=
  ∀ s : State,
    (s.linkI.state = .up → 0 < s.creditsI.returnTraffic →
      exec (.creditSend .traffic) s =
        .next { s with
          creditsI :=
            { s.creditsI with returnTraffic := s.creditsI.returnTraffic - min s.creditsI.returnTraffic 255 },
          linkI :=
            { s.linkI with
              lane :=
                s.linkI.lane ++
                  [(creditPacket creditTraffic (BitVec.ofNat 8 (min s.creditsI.returnTraffic 255))).wire] } }) ∧
    (s.linkI.state = .up → 0 < s.creditsI.returnMgmt →
      exec (.creditSend .mgmt) s =
        .next { s with
          creditsI := { s.creditsI with returnMgmt := s.creditsI.returnMgmt - min s.creditsI.returnMgmt 255 },
          linkI :=
            { s.linkI with
              lane :=
                s.linkI.lane ++ [(creditPacket creditMgmt (BitVec.ofNat 8 (min s.creditsI.returnMgmt 255))).wire] } }) ∧
    (s.linkT.state = .up → 0 < s.creditsT.returnResp →
      exec (.creditSend .response) s =
        .next { s with
          creditsT := { s.creditsT with returnResp := s.creditsT.returnResp - min s.creditsT.returnResp 255 },
          linkT :=
            { s.linkT with
              lane :=
                s.linkT.lane ++ [(creditPacket creditResponse (BitVec.ofNat 8 (min s.creditsT.returnResp 255))).wire] } }) ∧
    (s.linkI.state ≠ .up ∨ s.creditsI.returnTraffic = 0 → exec (.creditSend .traffic) s = .next s) ∧
    (s.linkI.state ≠ .up ∨ s.creditsI.returnMgmt = 0 → exec (.creditSend .mgmt) s = .next s) ∧
    (s.linkT.state ≠ .up ∨ s.creditsT.returnResp = 0 → exec (.creditSend .response) s = .next s)

/-! ### Departures -/

/-- R50, R51, R52: when some head can depart, one pacer is served before every other whose head can depart. When none can, R50 gives
no departure, and that the DEPARTURE command then changes nothing is the model's choice (notes/assumptions/5.md). -/
def Obligations.Arbiter_finds_a_winner : Prop :=
  ∀ s : State,
    ((∃ p req, MayDepart s p req) → ∃ p req, Wins s p req) ∧
    (∀ p q r r', Wins s p r → Wins s q r' → p = q) ∧
    ((¬∃ p req, MayDepart s p req) → exec .departure s = .next s)

/-- R54 to R57: the departure of the winner. The idle rule; the head leaves and its slot returns a credit; a READ or WRITE takes
the lowest FREE entry and goes out under its number, a WRITE_P goes out as it is; one request credit is used; the pacer records
it and takes its next DUE; and its calendar place and drain are settled. That the idle rule acts on its three conditions alone, at a
first departure after START too, is the model's choice (notes/assumptions/24.md). -/
def Obligations.Departure_sends_the_winner : Prop :=
  ∀ (s : State) (p : PacerId) (slot : HoldSlot) (rest : List HoldSlot), Wins s p slot.request →
    s.queue p = slot :: rest →
    let a := afterIdleRule p s
    let req := slot.request
    let now := s.clock.pacingTime
    (isPosted req = true →
      exec .departure s =
        .next (drainCheck p (settleCalendar p
          { a.setPacer p (departed now req.header.beats 0 (a.pacer p)) with
            queues := tableSet s.queues p rest, creditsI := creditsAfterSlots s 1,
            creditsT := { s.creditsT with heldReq := s.creditsT.heldReq - 1 },
            linkT := { s.linkT with lane := s.linkT.lane ++ [req.wire] } }))) ∧
    ∀ n : EntryId, isPosted req = false → LowestFree s n →
      exec .departure s =
        .next (drainCheck p (settleCalendar p
          { a.setPacer p (departed now req.header.beats 1 (a.pacer p)) with
            queues := tableSet s.queues p rest, creditsI := creditsAfterSlots s 1,
            outstanding :=
              tableSet s.outstanding n
                { state := .busy, pacer := p, tag := req.header.tag, upTxid := req.header.txid,
                  kind := if isRead req then .read else .write, beats := req.header.beats,
                  deadline :=
                    if s.agent.respTimeout = 0 then none
                    else some (s.clock.deviceTime + s.agent.respTimeout.toNat),
                  orphan := false, closeCause := none, quarantineOnClose := false, quarantineEnd := none },
            creditsT := { s.creditsT with heldReq := s.creditsT.heldReq - 1 },
            linkT :=
              { s.linkT with
                lane :=
                  s.linkT.lane ++
                    [({ req with header := { req.header with txid := BitVec.ofNat 8 n.val } } : Packet).wire] } }))

/-! ### Deadlines and quarantine -/

/-- R34, R103: the expiry of a BUSY entry of pacer p. FLIGHT falls; a LIVE or PAUSED p takes a timeout halt; the counter rises
and a RESP_TIMEOUT notice is handed over; the entry becomes CLOSING under a TIMEOUT item, or if ORPHAN is given up on; and p's
calendar place and drain are settled. Before the deadline nothing (the model's choice, notes/assumptions/5.md).
An entry given up on keeps its two flags, as the model reads R103 (notes/assumptions/13.md). -/
def Obligations.Entry_expires_at_its_deadline : Prop :=
  ∀ (n : EntryId) (s : State),
    (∀ d, (s.entry n).state = .busy → (s.entry n).deadline = some d → d ≤ s.clock.deviceTime →
      let e := s.entry n
      let p := e.pacer
      let low : Pacer := { s.pacer p with flight := (s.pacer p).flight - 1 }
      let a :=
        if adapts (s.pacer p) then crossingCheck p (s.setPacer p (restarted low (s.pacer p).cfg.spaceMax))
        else s.setPacer p low
      let b := (a.bump .timeouts).plainNotice (.respTimeout p e.tag e.upTxid)
      exec (.expiry n) s =
        .next (drainCheck p (settleCalendar p
          (if e.orphan then b.setEntry n (givenUpOn s e)
            else
              { b.setEntry n
                  { e with
                    state := .closing, closeCause := some .timeout, quarantineOnClose := true, deadline := none } with
                replies := s.replies ++ [.givenUp .timeout n] })))) ∧
    ((s.entry n).state ≠ .busy ∨ (∀ d, (s.entry n).deadline = some d → s.clock.deviceTime < d) →
      exec (.expiry n) s = .next s)

/-- R105: a QUARANTINE entry that reaches its QUARANTINE_END becomes FREE, and nothing else changes: no FLIGHT, no counter, no
pacer. -/
def Obligations.Quarantine_ends_in_free : Prop :=
  ∀ (n : EntryId) (s : State) (d : DeviceTime), (s.entry n).state = .quarantine → (s.entry n).quarantineEnd = some d →
    d ≤ s.clock.deviceTime → exec (.quarantineEnd n) s = .next (s.setEntry n (freed (s.entry n)))

/-! ### The Sweeper -/

/-- R89, R90: the DEFAULT_PACER step, the visit of an entry, and after entry 1023 the end of the sweep: VACANT, a RETIRE_DONE
notice, and the next pacer's sweep begun. -/
def Obligations.Sweep_clears_the_bindings : Prop :=
  ∀ (p : PacerId) (s : State),
    (s.sweeper.cursor = .defaultStep p →
      exec .sweepDefaultPacerStep s =
        .next { s with
          defaultPacer := if s.defaultPacer = some p then none else s.defaultPacer,
          sweeper := { s.sweeper with cursor := .visit p 0 } }) ∧
    (∀ k : Tag, k ≠ 1023 → s.sweeper.cursor = .visit p k →
      exec .sweepEntryVisit s =
        .next { s.setBinding k (if s.binding k = some p then none else s.binding k) with
          sweeper := { s.sweeper with cursor := .visit p (k + 1) } }) ∧
    (s.sweeper.cursor = .visit p 1023 →
      exec .sweepEntryVisit s =
        .next {
          ((s.setBinding 1023 (if s.binding 1023 = some p then none else s.binding 1023)).setPacer p
            { s.pacer p with state := .vacant }).plainNotice (.retireDone p) with
          sweeper :=
            match s.sweeper.queue with
            | [] => { queue := [], cursor := .idle }
            | q :: rest => { queue := rest, cursor := .defaultStep q } })

/-! ### The response path -/

/-- R104, R119, R120, R121, R142, R143: the placement of the oldest item when it is a refusal, a TIMEOUT or LINK_LOST answer, or the
agent's answer, after which the posted writes that wait are dropped and the first READ or WRITE is taken. With no item, or with the
bridge-made share full, R119 gives no placement, and that the command then changes nothing is the model's choice
(notes/assumptions/5.md). An entry given up on keeps its two flags, as the model reads R104 (notes/assumptions/13.md). -/
def Obligations.Reply_item_is_placed : Prop :=
  ∀ s : State,
    (s.replies = [] ∨ 8 ≤ s.bridgeCount → exec .replyPlacement s = .next s) ∧
    (∀ req cause p rest, s.replies = .refusal req cause p :: rest → s.bridgeCount < 8 →
      exec .replyPlacement s =
        .next { s with
          responses :=
            s.responses ++
              [{ packet :=
                  bridgeResponse (isRead req) classTraffic req.header.tag req.header.txid cause.status
                    (match p with | some q => BitVec.ofNat 8 q.val | none => 0) 0,
                 origin := .bridge }],
          replies := rest, creditsI := creditsAfterSlots s 1 }) ∧
    (∀ cause n rest, s.replies = .givenUp cause n :: rest → s.bridgeCount < 8 →
      exec .replyPlacement s =
        .next { s with
          responses :=
            s.responses ++
              [{ packet :=
                  bridgeResponse ((s.entry n).kind == .read) classTraffic (s.entry n).tag (s.entry n).upTxid
                    cause.status (BitVec.ofNat 8 (s.entry n).pacer.val) 0,
                 origin := .bridge }],
          replies := rest,
          outstanding :=
            tableSet s.outstanding n
              (if (s.entry n).quarantineOnClose then givenUpOn s (s.entry n) else freed (s.entry n)) }) ∧
    ∀ status detail beat rest req posted waiting, s.replies = .mgmt status detail beat :: rest → s.bridgeCount < 8 →
      s.mgmtQueue = req :: (posted ++ waiting) → (∀ x ∈ posted, isPosted x = true) →
      let b : State :=
        { s with
          responses :=
            s.responses ++
              [{ packet := bridgeResponse (isRead req) classMgmt req.header.tag req.header.txid status detail beat,
                 origin := .bridge }],
          replies := rest, mgmtQueue := waiting, creditsI := creditsAfterAnswers s (posted.length + 1),
          agent :=
            { s.agent with
              state := .ready,
              counters :=
                tableSet s.agent.counters Counter.mgmtPostedDrops.index
                  (saturatingSucc^[posted.length] (s.counter .mgmtPostedDrops)) } }
      (waiting = [] → exec .replyPlacement s = .next b) ∧
      ∀ next tail, waiting = next :: tail → isPosted next = false →
        exec .replyPlacement s = .next (takeRequest next b)

/-- R70: the placement of an ABORTED item of pacer p. The head leaves, its slot frees and returns a credit, the counter rises,
the drain is checked, and a p still DRAINING has its new head processed. -/
def Obligations.Aborted_item_is_placed : Prop :=
  ∀ (s : State) (rest : List ReplyItem) (p : PacerId) (slot : HoldSlot) (tail : List HoldSlot),
    s.replies = .aborted p :: rest → s.bridgeCount < 8 → s.queue p = slot :: tail →
    let a :=
      drainCheck p
        { (s.setPacer p { s.pacer p with qlen := (s.pacer p).qlen - 1 }).bump .aborted with
          responses :=
            s.responses ++
              [{ packet :=
                  bridgeResponse (isRead slot.request) classTraffic slot.request.header.tag slot.request.header.txid 7
                    (BitVec.ofNat 8 p.val) 0,
                 origin := .bridge }],
          replies := rest, queues := tableSet s.queues p tail, creditsI := creditsAfterSlots s 1 }
    exec .replyPlacement s = .next (if (a.pacer p).state = .draining then processDiscard p a else a)

/-- R116: the Response Buffer sends its oldest entry while Link port I is UP and holds a response credit: the credit is used, the
packet goes to the port, and an entry of target origin returns its T-port credit. Otherwise the command changes nothing (the model's
choice, notes/assumptions/5.md). -/
def Obligations.Oldest_response_is_sent : Prop :=
  ∀ (s : State),
    (∀ (r : BufferedResponse) (rest : List BufferedResponse), s.responses = r :: rest → s.linkI.state = .up →
      0 < s.creditsI.heldResp →
      exec .responseSend s =
        .next { s with
          responses := rest,
          creditsI := { s.creditsI with heldResp := s.creditsI.heldResp - 1 },
          linkI := { s.linkI with lane := s.linkI.lane ++ [r.packet.wire] },
          creditsT := if r.origin = .target then creditsAfterReturns s 1 else s.creditsT }) ∧
    (s.responses = [] ∨ s.linkI.state ≠ .up ∨ s.creditsI.heldResp = 0 → exec .responseSend s = .next s)

/-! ### Management requests -/

/-- R142, R143, R144: a management request arrives under its credit. While the agent is ANSWERING it waits at the tail of the
queue with no effect; a WRITE_P that a READY agent takes is dropped unjudged, counted, and its credit returned. That the table's
rows are these arrivals is the model's reading (notes/assumptions/6.md). -/
def Obligations.Management_request_waits_or_is_dropped : Prop :=
  ∀ (pkt : Packet) (s : State), s.linkI.state = .up → 0 < s.creditsI.givenMgmt → pkt.isRequestOf classMgmt = true →
    (∀ c : Instr, c = .mgmtArrival pkt ∨ c = .mgmtWrite pkt ∨ c = .mgmtWriteP pkt → s.agent.state = .answering →
      exec c s =
        .next { s with
          creditsI := { s.creditsI with givenMgmt := s.creditsI.givenMgmt - 1 }, mgmtQueue := s.mgmtQueue ++ [pkt] }) ∧
    (∀ c : Instr, c = .mgmtArrival pkt ∨ c = .mgmtWriteP pkt → s.agent.state = .ready → s.mgmtQueue = [] →
      isPosted pkt = true →
      exec c s =
        .next { s.bump .mgmtPostedDrops with
          creditsI := { s.creditsI with returnMgmt := s.creditsI.returnMgmt + 1 } })

/-- R143, R145, R149, R151, R175: a READ by a manager of any word but pop is answered with the word as it stands, and changes
nothing; and what each word reads as, in bytes 0..7 of the beat with 0 in the others (R141, section 12.3). The layouts of the pacer words,
the outstanding view, the command word and the notice reply are those of the statements about them. -/
def Obligations.Management_read_returns_the_word : Prop :=
  (∀ (pkt : Packet) (s : State) (w : WindowWord), MgmtOpen s { tag := pkt.header.tag, txid := pkt.header.txid } →
    pkt.isRequestOf classMgmt = true → isRead pkt = true → pkt.header.beats = 1 →
    pkt.header.address = wordAddress s w → w ≠ .pop →
    exec (.mgmtArrival pkt) s = .next (answered s pkt { status := 0, detail := 0, beat := readBeat s w })) ∧
  ∀ s : State,
    readBeat s .identity = 0x012160 ∧ readBeat s .tickLen = s.agent.tickLen.setWidth 256 ∧
    readBeat s .respTimeout = s.agent.respTimeout.setWidth 256 ∧ readBeat s .enables = s.agent.enables.setWidth 256 ∧
    readBeat s .defaultPacer = boundBeat s.defaultPacer ∧ (∀ t, readBeat s (.tagMap t) = boundBeat (s.binding t)) ∧
    (∀ e, readBeat s (.manager e) =
      BitVec.ofNat 256 ((s.manager e).tag.toNat + if (s.manager e).valid then 2 ^ 15 else 0)) ∧
    (∀ c : Counter, readBeat s (.counter c.index) = (s.counter c).setWidth 256) ∧
    readBeat s .command = (lastCommandWord s.agent.lastCommand).setWidth 256 ∧
    (∀ p w, readBeat s (.config p w) = (configWord (s.pacer p).cfg w).setWidth 256) ∧
    (∀ p w, readBeat s (.dynamic p w) = (dynamicWord (s.pacer p) w).setWidth 256) ∧
    (∀ n, readBeat s (.outstanding n) = (entryWord (s.entry n)).setWidth 256) ∧
    readBeat s .peek = noticeBeat s.notices.records.head? s.notices.records.length s.notices.overflow

/-- R145, R146: the checks of a management READ or WRITE, in order: beats, window, alignment, access, assigned word, and for a
WRITE a writable word. Each refusal is answered with its status and no other effect but the DENIED counter and notice. That the
MGMT_WRITE row is its request arriving is the model's reading (notes/assumptions/6.md). -/
def Obligations.Management_request_is_refused : Prop :=
  ∀ (pkt : Packet) (s : State) (c : Instr), c = .mgmtArrival pkt ∨ c = .mgmtWrite pkt → s.linkI.state = .up →
    0 < s.creditsI.givenMgmt → s.agent.state = .ready → s.mgmtQueue = [] → pkt.isRequestOf classMgmt = true →
    isPosted pkt = false →
    let base := windowBase s.pins.wbase
    let address := pkt.header.address.toNat
    let status (e : State) (st : BitVec 5) : Host.Outcome State Fault Refusal :=
      .next (answered e pkt { status := st, detail := 0, beat := 0 })
    let inWindow := base ≤ address ∧ address < base + 0x10000
    (pkt.header.beats ≠ 1 → exec c s = status s 15) ∧
    (pkt.header.beats = 1 → ¬inWindow → exec c s = status s 11) ∧
    (pkt.header.beats = 1 → inWindow → ¬8 ∣ address → exec c s = status s 15) ∧
    (pkt.header.beats = 1 → inWindow → 8 ∣ address → isManager s pkt.header.tag = false →
      exec c s = status ((s.bump .denied).plainNotice (.denied pkt.header.tag)) 10) ∧
    (pkt.header.beats = 1 → inWindow → 8 ∣ address → isManager s pkt.header.tag = true →
      wordAt (address - base) = none → exec c s = status s 11) ∧
    (pkt.header.beats = 1 → inWindow → 8 ∣ address → isManager s pkt.header.tag = true → isRead pkt = false →
      ∀ w, wordAt (address - base) = some w →
        w = .identity ∨ w = .pop ∨ w = .peek ∨ (∃ p k, w = .dynamic p k) ∨ (∃ n, w = .outstanding n) →
        exec c s = status s 12)

/-! ### Commands -/

/-- R1, R5, R7: a configuration is legal exactly when each field is in its range and the spacings, MARK_LIMIT, SLOW_AT and SLOW_BAND
are in their order; and STAGE of a VACANT pacer. -/
def Obligations.Stage_sets_the_context_afresh : Prop :=
  (∀ c : PacerConfig, legal c = true ↔ LegalConfig c) ∧
  ∀ (src : Sender) (p : PacerId) (v : BitVec 16) (s : State), MgmtOpen s src → (s.pacer p).state = .vacant →
    (LegalConfig (s.pacer p).cfg →
      exec (.cmdStage src (pacerField p) v) s =
        .next (commandDone s
          (s.setPacer p
            { s.pacer p with
              state := .staged, spacing := (s.pacer p).cfg.spaceStart, due := 0, lastDepart := 0, flight := 0,
              qlen := 0, winCount := 0, winMarks := 0, departCount := 0, beatCount := 0, refuseCount := 0,
              demand := false, slow := false, crossPending := false })
          0x01 src (pacerField p) v .accepted)) ∧
    (¬LegalConfig (s.pacer p).cfg →
      exec (.cmdStage src (pacerField p) v) s = .next (commandDone s s 0x01 src (pacerField p) v .badParam))

/-- R8: START of a STAGED pacer. -/
def Obligations.Start_makes_a_pacer_live : Prop :=
  ∀ (src : Sender) (p : PacerId) (v : BitVec 16) (s : State), MgmtOpen s src → (s.pacer p).state = .staged →
    exec (.cmdStart src (pacerField p) v) s =
      .next (commandDone s
        (settleCalendar p (crossingCheck p
          (s.setPacer p
            { restarted (s.pacer p) (s.pacer p).cfg.spaceStart with
              state := .live, due := s.clock.pacingTime, lastDepart := s.clock.pacingTime })))
        0x02 src (pacerField p) v .accepted)

/-- R9, R10: PAUSE of a LIVE pacer takes it off the calendar, PAUSE of a PAUSED one changes nothing, and RESUME clamps SPACING,
takes DUE no earlier than now and settles the calendar. -/
def Obligations.Pause_and_resume : Prop :=
  ∀ (src : Sender) (p : PacerId) (v : BitVec 16) (s : State), MgmtOpen s src →
    ((s.pacer p).state = .live →
      exec (.cmdPause src (pacerField p) v) s =
        .next (commandDone s
          { s.setPacer p { s.pacer p with state := .paused } with calendar := s.calendar.filter (fun q => q != p) }
          0x03 src (pacerField p) v .accepted)) ∧
    ((s.pacer p).state = .paused →
      exec (.cmdPause src (pacerField p) v) s = .next (commandDone s s 0x03 src (pacerField p) v .accepted)) ∧
    ((s.pacer p).state = .paused →
      exec (.cmdResume src (pacerField p) v) s =
        .next (commandDone s
          (settleCalendar p
            (s.setPacer p
              { s.pacer p with
                state := .live, spacing := clampSpacing (s.pacer p).cfg (s.pacer p).spacing,
                due := if (s.pacer p).due.toNat < s.clock.pacingTime.toNat then s.clock.pacingTime else (s.pacer p).due }))
          0x04 src (pacerField p) v .accepted))

/-- R11: SET_SPACING clamps its operand to the bounds; in LIVE and PAUSED the window restarts and the crossing check follows, in
STAGED neither. -/
def Obligations.Set_spacing_clamps_its_operand : Prop :=
  ∀ (src : Sender) (p : PacerId) (v : BitVec 16) (s : State), MgmtOpen s src →
    let c := s.pacer p
    let x := if v.toNat < c.cfg.spaceMin.toNat then c.cfg.spaceMin
      else if c.cfg.spaceMax.toNat < v.toNat then c.cfg.spaceMax else v
    (c.state = .staged →
      exec (.cmdSetSpacing src (pacerField p) v) s =
        .next (commandDone s (s.setPacer p { c with spacing := x }) 0x07 src (pacerField p) v .accepted)) ∧
    (c.state = .live ∨ c.state = .paused →
      exec (.cmdSetSpacing src (pacerField p) v) s =
        .next (commandDone s (crossingCheck p (s.setPacer p (restarted c x))) 0x07 src (pacerField p) v .accepted))

/-- R12, R13, R15, R48, R71: the two RETIRE commands. The pending crossing is withdrawn, the pacer is DRAINING in its mode, the
calendar is settled (with DISCARD it leaves, and its head is processed), and the drain is checked; a FLUSH drain may be turned
into DISCARD. -/
def Obligations.Retire_drains_a_pacer : Prop :=
  ∀ (src : Sender) (p : PacerId) (v : BitVec 16) (s : State), MgmtOpen s src →
    let drain (e : State) (m : RetireMode) : State :=
      e.setPacer p { e.pacer p with state := .draining, retireMode := some m }
    let off (e : State) : State := { e with calendar := e.calendar.filter (fun q => q != p) }
    (bindable (s.pacer p) = true →
      exec (.cmdRetireFlush src (pacerField p) v) s =
        .next (commandDone s (drainCheck p (settleCalendar p (drain (withdrawn p s) .flush)))
          0x05 src (pacerField p) v .accepted)) ∧
    (bindable (s.pacer p) = true →
      exec (.cmdRetireDiscard src (pacerField p) v) s =
        .next (commandDone s (processDiscard p (off (drain (withdrawn p s) .discard)))
          0x06 src (pacerField p) v .accepted)) ∧
    ((s.pacer p).state = .draining → (s.pacer p).retireMode = some .flush →
      exec (.cmdRetireDiscard src (pacerField p) v) s =
        .next (commandDone s (processDiscard p (off (drain s .discard))) 0x06 src (pacerField p) v .accepted))

/-- R6, R154, R155, R176: a command that the table of R6 refuses, one whose pacer field is above 127, and one whose code names no
command, each changes nothing but the last-command record and is answered OK with its outcome. -/
def Obligations.Command_is_refused : Prop :=
  ∀ (src : Sender) (v : BitVec 16) (s : State), MgmtOpen s src →
    (∀ (k : Command) (p : PacerId), refusedCell k (s.pacer p) →
      exec (commandRow k src (pacerField p) v) s =
        .next (commandDone s s k.code src (pacerField p) v .refusedState)) ∧
    (∀ (k : Command) (x : BitVec 8), k ≠ .rearmAlert → 128 ≤ x.toNat →
      exec (commandRow k src x v) s = .next (commandDone s s k.code src x v .badPacer)) ∧
    ∀ code x : BitVec 8, code = 0 ∨ 8 < code.toNat →
      exec (.badCommand src code x v) s = .next (commandDone s s code src x v .badCommand)

/-- R136, R137, R152: REARM_ALERT, and a write of the enables word, act on the alert flags; an ALERT due goes to Link port I,
which is UP here. -/
def Obligations.Alert_is_rearmed_and_enabled : Prop :=
  ∀ (src : Sender) (x : BitVec 8) (v : BitVec 16) (word : MgmtWord) (s : State), MgmtOpen s src →
    let e : State := { s with agent := { s.agent with enables := word.extractLsb' 0 8 } }
    let now := s.agent.enables.getLsbD 7
    let sent (t : State) : State :=
      { t with
        notices := { t.notices with alertArmed := false },
        linkI := { t.linkI with
          lane := t.linkI.lane ++ [(alertPacket (s.manager 0).tag s.notices.records.length).wire] } }
    (now = false ∨ s.notices.records = [] →
      exec (.cmdRearmAlert src x v) s =
        .next (commandDone s { s with notices := { s.notices with alertArmed := true } } 0x08 src x v .accepted)) ∧
    (now = true → s.notices.records ≠ [] →
      exec (.cmdRearmAlert src x v) s = .next (commandDone s (sent s) 0x08 src x v .accepted)) ∧
    (word.getLsbD 7 = now → exec (.enablesWrite src word) s = .next (writeDone s e src .enables word 0)) ∧
    (now = true → word.getLsbD 7 = false →
      exec (.enablesWrite src word) s =
        .next (writeDone s { e with notices := { s.notices with alertPending := false, alertArmed := true } }
          src .enables word 0)) ∧
    (now = false → word.getLsbD 7 = true →
      exec (.enablesWrite src word) s =
        .next (writeDone s
          (if s.notices.alertArmed = true ∧ s.notices.records ≠ [] then sent e else e) src .enables word 0))

/-- R134, R135, R177: a pop removes the oldest record, clears OVERFLOW and, for a crossing, its pacer's CROSS_PENDING; on an empty
queue it clears OVERFLOW and arms the alert. A peek changes nothing. Each is answered with the record, the count and OVERFLOW as it
stood, each field at its bits of the beat, 0 where the kind has none and outside them, and for no record 0 but for OVERFLOW. -/
def Obligations.Notice_is_popped_or_peeked : Prop :=
  (∀ (b : NoticeBody) (stamp : BitVec 32) (n : Nat) (o : Bool), let beat := noticeBeat (some ⟨b, stamp⟩) n o
    let fields := noticeFields b
    beat.extractLsb' 0 4 = fields.kind ∧ beat.extractLsb' 8 7 = fields.pacer ∧ beat.extractLsb' 16 10 = fields.tag ∧
    beat.extractLsb' 32 8 = fields.txid ∧ beat.extractLsb' 40 16 = fields.value ∧ beat.extractLsb' 64 32 = stamp ∧
    beat.extractLsb' 96 6 = BitVec.ofNat 6 n ∧ beat.getLsbD 104 = o ∧
    beat &&& ~~~(0x13FFFFFFFFF00FFFFFF03FF7F0F : Beat) = 0) ∧
  (∀ o : Bool, noticeBeat none 0 o = if o then 1 <<< 104 else 0) ∧
  ∀ (src : Sender) (s : State), MgmtOpen s src →
    let answer (w : WindowWord) (e : State) (beat : Beat) : Host.Outcome State Fault Refusal :=
      .next (answered e (readRequest s src w) { status := 0, detail := 0, beat := beat })
    (s.notices.records = [] →
      exec (.noticePop src) s =
        answer .pop { s with notices := { s.notices with overflow := false, alertArmed := true } }
          (noticeBeat none 0 s.notices.overflow)) ∧
    (∀ r rest, s.notices.records = r :: rest → r.body.crossingOf = none →
      exec (.noticePop src) s =
        answer .pop { s with notices := { s.notices with records := rest, overflow := false } }
          (noticeBeat (some r) rest.length s.notices.overflow)) ∧
    (∀ r rest p, s.notices.records = r :: rest → r.body.crossingOf = some p →
      exec (.noticePop src) s =
        answer .pop
          { s.setPacer p { s.pacer p with crossPending := false } with
            notices := { s.notices with records := rest, overflow := false } }
          (noticeBeat (some r) rest.length s.notices.overflow)) ∧
    exec (.noticePeek src) s =
      answer .peek s (noticeBeat s.notices.records.head? s.notices.records.length s.notices.overflow)

/-! ### Writes -/

/-- R45, R78, R79, R175: the writes of TICK_LEN, DEFAULT_PACER and a Tag Map entry, each judged by its rule: accepted with the value
taken, or refused MGMT_STATE or MGMT_PARAM with nothing changed. -/
def Obligations.Settings_and_bindings_are_written : Prop :=
  ∀ (src : Sender) (v : MgmtWord) (g : Tag) (s : State), MgmtOpen s src →
    let tick : BitVec 16 := v.extractLsb' 0 16
    let named : BitVec 8 := v.extractLsb' 0 8
    let paced := ∃ p : PacerId, (s.pacer p).state = .live ∨ (s.pacer p).state = .draining
    let done (e : State) (w : WindowWord) (status : BitVec 5) : Host.Outcome State Fault Refusal :=
      .next (writeDone s e src w v status)
    (paced → exec (.tickLenWrite src v) s = done s .tickLen 13) ∧
    (¬paced → tick.toNat < 5 ∨ 1280 < tick.toNat → exec (.tickLenWrite src v) s = done s .tickLen 14) ∧
    (¬paced → 5 ≤ tick.toNat → tick.toNat ≤ 1280 →
      exec (.tickLenWrite src v) s = done { s with agent := { s.agent with tickLen := tick } } .tickLen 0) ∧
    (v.getLsbD 15 = false →
      exec (.defaultPacerWrite src v) s = done { s with defaultPacer := none } .defaultPacer 0 ∧
      exec (.tagMapWrite src g v) s = done (s.setBinding g none) (.tagMap g) 0) ∧
    (v.getLsbD 15 = true → 128 ≤ named.toNat →
      exec (.defaultPacerWrite src v) s = done s .defaultPacer 14 ∧
      exec (.tagMapWrite src g v) s = done s (.tagMap g) 14) ∧
    ∀ p : PacerId, v.getLsbD 15 = true → named.toNat = p.val →
      (bindable (s.pacer p) = true →
        exec (.defaultPacerWrite src v) s = done { s with defaultPacer := some p } .defaultPacer 0 ∧
        exec (.tagMapWrite src g v) s = done (s.setBinding g (some p)) (.tagMap g) 0) ∧
      (bindable (s.pacer p) = false →
        exec (.defaultPacerWrite src v) s = done s .defaultPacer 13 ∧
        exec (.tagMapWrite src g v) s = done s (.tagMap g) 13)

/-- R147, R151, R153: the write of a manager list entry, accepted from entry 0's tag alone and never making entry 0 invalid; the
write of RESP_TIMEOUT, which comes as a MGMT_WRITE; and the clear of a counter. -/
def Obligations.Managers_timeout_and_counters_are_written : Prop :=
  ∀ (src : Sender) (v : MgmtWord) (s : State), MgmtOpen s src →
    let written : ManagerEntry := { valid := v.getLsbD 15, tag := v.extractLsb' 0 10 }
    (∀ e : Fin 4, src.tag ≠ (s.manager 0).tag →
      exec (.managerListWrite src e v) s =
        .next (writeDone s ((s.bump .denied).plainNotice (.denied src.tag)) src (.manager e) v 10)) ∧
    (src.tag = (s.manager 0).tag → v.getLsbD 15 = false →
      exec (.managerListWrite src 0 v) s = .next (writeDone s s src (.manager 0) v 14)) ∧
    (∀ e : Fin 4, src.tag = (s.manager 0).tag → e ≠ 0 ∨ v.getLsbD 15 = true →
      exec (.managerListWrite src e v) s = .next (writeDone s (s.setManager e written) src (.manager e) v 0)) ∧
    (∀ c : Fin 16, exec (.counterClear src c v) s = .next (writeDone s (s.setCounterAt c 0) src (.counter c) v 0)) ∧
    exec (.mgmtWrite (writeRequest s src .respTimeout v)) s =
      .next (writeDone s { s with agent := { s.agent with respTimeout := v.extractLsb' 0 16 } } src .respTimeout v 0)

/-- R17, R18, R19, R175: a configuration write. VACANT takes the value as it is; LIVE, DRAINING and SWEEPING refuse it MGMT_STATE;
STAGED and PAUSED refuse an illegal context MGMT_PARAM and one below its occupancy MGMT_STATE, and otherwise take it with its
effects on SPACING and, in PAUSED, the crossing check. -/
def Obligations.Configuration_is_written : Prop :=
  ∀ (src : Sender) (p : PacerId) (w : Fin 7) (v : MgmtWord) (s : State), MgmtOpen s src →
    let c := s.pacer p
    let new := configWithWord c.cfg w v
    let done (e : State) (status : BitVec 5) : Prop :=
      exec (.configurationWrite src p w v) s = .next (writeDone s e src (.config p w) v status)
    let below := (w = 6 ∧ (new.flightCap.toNat < c.flight ∨ new.queueLimit.toNat < c.qlen)) ∨
      (w = 3 ∧ new.window.toNat ≤ c.winCount)
    let moved :=
      if w = 0 ∨ w = 1 then
        if c.spacing.toNat < new.spaceMin.toNat then new.spaceMin
        else if new.spaceMax.toNat < c.spacing.toNat then new.spaceMax else c.spacing
      else if w = 2 ∧ c.state = .staged then new.spaceStart
      else c.spacing
    let stored := s.setPacer p { c with cfg := new, spacing := moved }
    (c.state = .vacant → done (s.setPacer p { c with cfg := new }) 0) ∧
    (c.state = .live ∨ c.state = .draining ∨ c.state = .sweeping → done s 13) ∧
    (c.state = .staged ∨ c.state = .paused → legal new = false → done s 14) ∧
    (c.state = .staged ∨ c.state = .paused → legal new = true → below → done s 13) ∧
    (c.state = .staged → legal new = true → ¬below → done stored 0) ∧
    (c.state = .paused → legal new = true → ¬below →
      done (if w = 4 ∨ moved ≠ c.spacing then crossingCheck p stored else stored) 0)

end Statements
end

