-- ==== Sys2Proof/Laws/State.lean ====
section
/-!
SUPPORT. The small lemmas of the state: reading a table after it was set, and one lemma for each field and reader of the state
under each plain update, so that no proof unfolds a record update.
-/

namespace Sys2Proof.Machine

/-! ### Tables -/

@[simp] theorem tableGet_tableSet_self {α : Type} {n : Nat} (t : Vector α n) (i : Fin n) (x : α) :
    tableGet (tableSet t i x) i = x := by
  simp [tableGet, tableSet, Vector.get_eq_getElem]

theorem tableGet_tableSet_ne {α : Type} {n : Nat} (t : Vector α n) {i j : Fin n} (h : j ≠ i) (x : α) :
    tableGet (tableSet t i x) j = tableGet t j := by
  have hv : i.val ≠ j.val := fun e => h (Fin.ext e.symm)
  simp [tableGet, tableSet, Vector.get_eq_getElem, hv]

theorem tableGet_tableSet {α : Type} {n : Nat} (t : Vector α n) (i j : Fin n) (x : α) :
    tableGet (tableSet t i x) j = if j = i then x else tableGet t j := by
  by_cases h : j = i
  · subst h; simp
  · simp [h, tableGet_tableSet_ne t h]

@[simp] theorem tableSet_tableGet {α : Type} {n : Nat} (t : Vector α n) (i : Fin n) :
    tableSet t i (tableGet t i) = t := by
  simp [tableGet, tableSet, Vector.get_eq_getElem]

@[simp] theorem tableSet_tableSet {α : Type} {n : Nat} (t : Vector α n) (i : Fin n) (x y : α) :
    tableSet (tableSet t i x) i y = tableSet t i y := by
  simp [tableSet]

/-- Two tables with the same entries are the same. -/
theorem table_ext {α : Type} {n : Nat} {t u : Vector α n} (h : ∀ i : Fin n, tableGet t i = tableGet u i) : t = u := by
  apply Vector.ext
  intro i hi
  simpa [tableGet, Vector.get_eq_getElem] using h ⟨i, hi⟩

@[simp] theorem tableGet_replicate {α : Type} {n : Nat} (x : α) (i : Fin n) : tableGet (Vector.replicate n x) i = x := by
  simp [tableGet, Vector.get_eq_getElem]

@[simp] theorem tableGet_map {α β : Type} {n : Nat} (f : α → β) (t : Vector α n) (i : Fin n) :
    tableGet (t.map f) i = f (tableGet t i) := by
  simp [tableGet, Vector.get_eq_getElem]

theorem tagIndex_inj {t u : Tag} (h : tagIndex t = tagIndex u) : t = u := by
  have := congrArg Fin.val h
  exact BitVec.eq_of_toNat_eq this

/-! ### The readers of the tables after their own update -/

@[simp] theorem State.setPacer_pacer_self (s : State) (p : PacerId) (c : Pacer) : (s.setPacer p c).pacer p = c := by
  simp [State.pacer, State.setPacer]

theorem State.setPacer_pacer_ne (s : State) {p q : PacerId} (h : q ≠ p) (c : Pacer) :
    (s.setPacer p c).pacer q = s.pacer q := tableGet_tableSet_ne _ h _

theorem State.setPacer_pacer (s : State) (p q : PacerId) (c : Pacer) :
    (s.setPacer p c).pacer q = if q = p then c else s.pacer q := tableGet_tableSet _ _ _ _

@[simp] theorem State.setPacer_setPacer (s : State) (p : PacerId) (c d : Pacer) :
    (s.setPacer p c).setPacer p d = s.setPacer p d := by
  simp [State.setPacer]

@[simp] theorem State.setPacer_self (s : State) (p : PacerId) : s.setPacer p (s.pacer p) = s := by
  simp [State.setPacer, State.pacer]

@[simp] theorem State.setQueue_queue_self (s : State) (p : PacerId) (l : List HoldSlot) :
    (s.setQueue p l).queue p = l := by
  simp [State.queue, State.setQueue]

theorem State.setQueue_queue (s : State) (p q : PacerId) (l : List HoldSlot) :
    (s.setQueue p l).queue q = if q = p then l else s.queue q := tableGet_tableSet _ _ _ _

@[simp] theorem State.setEntry_entry_self (s : State) (n : EntryId) (x : Entry) : (s.setEntry n x).entry n = x := by
  simp [State.entry, State.setEntry]

theorem State.setEntry_entry (s : State) (n m : EntryId) (x : Entry) :
    (s.setEntry n x).entry m = if m = n then x else s.entry m := tableGet_tableSet _ _ _ _

@[simp] theorem State.setBinding_binding_self (s : State) (t : Tag) (b : Option PacerId) :
    (s.setBinding t b).binding t = b := by
  simp [State.binding, State.setBinding]

theorem State.setBinding_binding (s : State) (t u : Tag) (b : Option PacerId) :
    (s.setBinding t b).binding u = if u = t then b else s.binding u := by
  by_cases h : u = t
  · subst h; simp
  · have hi : tagIndex u ≠ tagIndex t := fun e => h (tagIndex_inj e)
    simp [State.binding, State.setBinding, tableGet_tableSet_ne _ hi, h]

@[simp] theorem State.setManager_manager_self (s : State) (e : Fin 4) (m : ManagerEntry) :
    (s.setManager e m).manager e = m := by
  simp [State.manager, State.setManager]

theorem State.setManager_manager (s : State) (e f : Fin 4) (m : ManagerEntry) :
    (s.setManager e m).manager f = if f = e then m else s.manager f := tableGet_tableSet _ _ _ _

theorem Counter.index_inj {a b : Counter} (h : a.index = b.index) : a = b := by
  cases a <;> cases b <;> first | rfl | cases h

theorem State.bump_counter (s : State) (c d : Counter) :
    (s.bump c).counter d = if d = c then saturatingSucc (s.counter c) else s.counter d := by
  by_cases h : d = c
  · subst h; simp [State.counter, State.bump, State.setCounterAt]
  · have hi : d.index ≠ c.index := fun e => h (Counter.index_inj e)
    simp [State.counter, State.bump, State.setCounterAt, tableGet_tableSet_ne _ hi, h]

/-! ### The readers at power-on -/

@[simp] theorem powerOn_pacer (r : Bool) (w : BitVec 4) (g : Tag) (p : PacerId) :
    (powerOn r w g).pacer p = powerOnPacer := tableGet_replicate _ _

@[simp] theorem powerOn_queue (r : Bool) (w : BitVec 4) (g : Tag) (p : PacerId) : (powerOn r w g).queue p = [] :=
  tableGet_replicate _ _

@[simp] theorem powerOn_entry (r : Bool) (w : BitVec 4) (g : Tag) (n : EntryId) :
    (powerOn r w g).entry n = powerOnEntry := tableGet_replicate _ _

@[simp] theorem powerOn_binding (r : Bool) (w : BitVec 4) (g t : Tag) : (powerOn r w g).binding t = none :=
  tableGet_replicate _ _

@[simp] theorem powerOn_counter (r : Bool) (w : BitVec 4) (g : Tag) (c : Counter) : (powerOn r w g).counter c = 0 :=
  tableGet_replicate _ _

/-- A table of one value counts none of the entries that value does not satisfy. -/
theorem countP_replicate_of_false {α : Type} {n : Nat} {x : α} {f : α → Bool} (h : f x = false) :
    (Vector.replicate n x).toList.countP f = 0 := by
  simp [Vector.toList_replicate, List.countP_replicate, h]

/-! ### The updates that are one of the plain updates -/

@[simp] theorem State.modPacer_eq (s : State) (p : PacerId) (f : Pacer → Pacer) :
    s.modPacer p f = s.setPacer p (f (s.pacer p)) := rfl

/-- One traffic credit returned (R165). -/
@[simp] theorem State.returnTraffic_eq (s : State) :
    s.returnTraffic = { s with creditsI := creditsAfterSlots s 1 } := by
  cases h : s.linkI.state <;> simp [State.returnTraffic, creditsAfterSlots, LinkState.countsReturns, h]

/-- One management credit returned (R165). -/
@[simp] theorem State.returnMgmt_eq (s : State) :
    s.returnMgmt = { s with creditsI := creditsAfterAnswers s 1 } := by
  cases h : s.linkI.state <;> simp [State.returnMgmt, creditsAfterAnswers, LinkState.countsReturns, h]

/-- Response credits returned (R117, R165). -/
@[simp] theorem State.returnResponses_eq (s : State) (n : Nat) :
    s.returnResponses n = { s with creditsT := creditsAfterReturns s n } := by
  cases h : s.linkT.state <;> simp [State.returnResponses, creditsAfterReturns, LinkState.countsReturns, h]

theorem State.bump_eq (s : State) (c : Counter) :
    s.bump c = s.setCounterAt c.index (saturatingSucc (s.counter c)) := rfl

@[simp] theorem lowerFlight_eq (p : PacerId) (s : State) :
    lowerFlight p s = s.setPacer p { s.pacer p with flight := (s.pacer p).flight - 1 } := rfl

/-! ### setPacer -/

@[simp] theorem State.setPacer_pins (s : State) (p : PacerId) (c : Pacer) : (s.setPacer p c).pins = s.pins := rfl
@[simp] theorem State.setPacer_clock (s : State) (p : PacerId) (c : Pacer) : (s.setPacer p c).clock = s.clock := rfl
@[simp] theorem State.setPacer_linkI (s : State) (p : PacerId) (c : Pacer) : (s.setPacer p c).linkI = s.linkI := rfl
@[simp] theorem State.setPacer_creditsI (s : State) (p : PacerId) (c : Pacer) : (s.setPacer p c).creditsI = s.creditsI := rfl
@[simp] theorem State.setPacer_linkT (s : State) (p : PacerId) (c : Pacer) : (s.setPacer p c).linkT = s.linkT := rfl
@[simp] theorem State.setPacer_creditsT (s : State) (p : PacerId) (c : Pacer) : (s.setPacer p c).creditsT = s.creditsT := rfl
@[simp] theorem State.setPacer_tagMap (s : State) (p : PacerId) (c : Pacer) : (s.setPacer p c).tagMap = s.tagMap := rfl
@[simp] theorem State.setPacer_defaultPacer (s : State) (p : PacerId) (c : Pacer) : (s.setPacer p c).defaultPacer = s.defaultPacer := rfl
@[simp] theorem State.setPacer_queues (s : State) (p : PacerId) (c : Pacer) : (s.setPacer p c).queues = s.queues := rfl
@[simp] theorem State.setPacer_pacers (s : State) (p : PacerId) (c : Pacer) : (s.setPacer p c).pacers = tableSet s.pacers p c := rfl
@[simp] theorem State.setPacer_calendar (s : State) (p : PacerId) (c : Pacer) : (s.setPacer p c).calendar = s.calendar := rfl
@[simp] theorem State.setPacer_outstanding (s : State) (p : PacerId) (c : Pacer) : (s.setPacer p c).outstanding = s.outstanding := rfl
@[simp] theorem State.setPacer_responses (s : State) (p : PacerId) (c : Pacer) : (s.setPacer p c).responses = s.responses := rfl
@[simp] theorem State.setPacer_replies (s : State) (p : PacerId) (c : Pacer) : (s.setPacer p c).replies = s.replies := rfl
@[simp] theorem State.setPacer_notices (s : State) (p : PacerId) (c : Pacer) : (s.setPacer p c).notices = s.notices := rfl
@[simp] theorem State.setPacer_mgmtQueue (s : State) (p : PacerId) (c : Pacer) : (s.setPacer p c).mgmtQueue = s.mgmtQueue := rfl
@[simp] theorem State.setPacer_agent (s : State) (p : PacerId) (c : Pacer) : (s.setPacer p c).agent = s.agent := rfl
@[simp] theorem State.setPacer_sweeper (s : State) (p : PacerId) (c : Pacer) : (s.setPacer p c).sweeper = s.sweeper := rfl
@[simp] theorem State.setPacer_draws (s : State) (p : PacerId) (c : Pacer) : (s.setPacer p c).draws = s.draws := rfl
@[simp] theorem State.setPacer_pending (s : State) (p : PacerId) (c : Pacer) : (s.setPacer p c).pending = s.pending := rfl
@[simp] theorem State.setPacer_queue (s : State) (p : PacerId) (c : Pacer) (q : PacerId) : (s.setPacer p c).queue q = s.queue q := rfl
@[simp] theorem State.setPacer_entry (s : State) (p : PacerId) (c : Pacer) (m : EntryId) : (s.setPacer p c).entry m = s.entry m := rfl
@[simp] theorem State.setPacer_binding (s : State) (p : PacerId) (c : Pacer) (g : Tag) : (s.setPacer p c).binding g = s.binding g := rfl
@[simp] theorem State.setPacer_manager (s : State) (p : PacerId) (c : Pacer) (e : Fin 4) : (s.setPacer p c).manager e = s.manager e := rfl
@[simp] theorem State.setPacer_counter (s : State) (p : PacerId) (c : Pacer) (k : Counter) : (s.setPacer p c).counter k = s.counter k := rfl
@[simp] theorem State.setPacer_noticeEnable (s : State) (p : PacerId) (c : Pacer) (k : NoticeKind) : (s.setPacer p c).noticeEnable k = s.noticeEnable k := rfl
@[simp] theorem State.setPacer_alertEnable (s : State) (p : PacerId) (c : Pacer) : (s.setPacer p c).alertEnable = s.alertEnable := rfl
@[simp] theorem State.setPacer_noticeRoom (s : State) (p : PacerId) (c : Pacer) : (s.setPacer p c).noticeRoom = s.noticeRoom := rfl
@[simp] theorem State.setPacer_stamp (s : State) (p : PacerId) (c : Pacer) : (s.setPacer p c).stamp = s.stamp := rfl

/-! ### setQueue -/

@[simp] theorem State.setQueue_pins (s : State) (p : PacerId) (l : List HoldSlot) : (s.setQueue p l).pins = s.pins := rfl
@[simp] theorem State.setQueue_clock (s : State) (p : PacerId) (l : List HoldSlot) : (s.setQueue p l).clock = s.clock := rfl
@[simp] theorem State.setQueue_linkI (s : State) (p : PacerId) (l : List HoldSlot) : (s.setQueue p l).linkI = s.linkI := rfl
@[simp] theorem State.setQueue_creditsI (s : State) (p : PacerId) (l : List HoldSlot) : (s.setQueue p l).creditsI = s.creditsI := rfl
@[simp] theorem State.setQueue_linkT (s : State) (p : PacerId) (l : List HoldSlot) : (s.setQueue p l).linkT = s.linkT := rfl
@[simp] theorem State.setQueue_creditsT (s : State) (p : PacerId) (l : List HoldSlot) : (s.setQueue p l).creditsT = s.creditsT := rfl
@[simp] theorem State.setQueue_tagMap (s : State) (p : PacerId) (l : List HoldSlot) : (s.setQueue p l).tagMap = s.tagMap := rfl
@[simp] theorem State.setQueue_defaultPacer (s : State) (p : PacerId) (l : List HoldSlot) : (s.setQueue p l).defaultPacer = s.defaultPacer := rfl
@[simp] theorem State.setQueue_queues (s : State) (p : PacerId) (l : List HoldSlot) : (s.setQueue p l).queues = tableSet s.queues p l := rfl
@[simp] theorem State.setQueue_pacers (s : State) (p : PacerId) (l : List HoldSlot) : (s.setQueue p l).pacers = s.pacers := rfl
@[simp] theorem State.setQueue_calendar (s : State) (p : PacerId) (l : List HoldSlot) : (s.setQueue p l).calendar = s.calendar := rfl
@[simp] theorem State.setQueue_outstanding (s : State) (p : PacerId) (l : List HoldSlot) : (s.setQueue p l).outstanding = s.outstanding := rfl
@[simp] theorem State.setQueue_responses (s : State) (p : PacerId) (l : List HoldSlot) : (s.setQueue p l).responses = s.responses := rfl
@[simp] theorem State.setQueue_replies (s : State) (p : PacerId) (l : List HoldSlot) : (s.setQueue p l).replies = s.replies := rfl
@[simp] theorem State.setQueue_notices (s : State) (p : PacerId) (l : List HoldSlot) : (s.setQueue p l).notices = s.notices := rfl
@[simp] theorem State.setQueue_mgmtQueue (s : State) (p : PacerId) (l : List HoldSlot) : (s.setQueue p l).mgmtQueue = s.mgmtQueue := rfl
@[simp] theorem State.setQueue_agent (s : State) (p : PacerId) (l : List HoldSlot) : (s.setQueue p l).agent = s.agent := rfl
@[simp] theorem State.setQueue_sweeper (s : State) (p : PacerId) (l : List HoldSlot) : (s.setQueue p l).sweeper = s.sweeper := rfl
@[simp] theorem State.setQueue_draws (s : State) (p : PacerId) (l : List HoldSlot) : (s.setQueue p l).draws = s.draws := rfl
@[simp] theorem State.setQueue_pending (s : State) (p : PacerId) (l : List HoldSlot) : (s.setQueue p l).pending = s.pending := rfl
@[simp] theorem State.setQueue_pacer (s : State) (p : PacerId) (l : List HoldSlot) (q : PacerId) : (s.setQueue p l).pacer q = s.pacer q := rfl
@[simp] theorem State.setQueue_entry (s : State) (p : PacerId) (l : List HoldSlot) (m : EntryId) : (s.setQueue p l).entry m = s.entry m := rfl
@[simp] theorem State.setQueue_binding (s : State) (p : PacerId) (l : List HoldSlot) (g : Tag) : (s.setQueue p l).binding g = s.binding g := rfl
@[simp] theorem State.setQueue_manager (s : State) (p : PacerId) (l : List HoldSlot) (e : Fin 4) : (s.setQueue p l).manager e = s.manager e := rfl
@[simp] theorem State.setQueue_counter (s : State) (p : PacerId) (l : List HoldSlot) (k : Counter) : (s.setQueue p l).counter k = s.counter k := rfl
@[simp] theorem State.setQueue_noticeEnable (s : State) (p : PacerId) (l : List HoldSlot) (k : NoticeKind) : (s.setQueue p l).noticeEnable k = s.noticeEnable k := rfl
@[simp] theorem State.setQueue_alertEnable (s : State) (p : PacerId) (l : List HoldSlot) : (s.setQueue p l).alertEnable = s.alertEnable := rfl
@[simp] theorem State.setQueue_noticeRoom (s : State) (p : PacerId) (l : List HoldSlot) : (s.setQueue p l).noticeRoom = s.noticeRoom := rfl
@[simp] theorem State.setQueue_stamp (s : State) (p : PacerId) (l : List HoldSlot) : (s.setQueue p l).stamp = s.stamp := rfl

/-! ### setEntry -/

@[simp] theorem State.setEntry_pins (s : State) (n : EntryId) (x : Entry) : (s.setEntry n x).pins = s.pins := rfl
@[simp] theorem State.setEntry_clock (s : State) (n : EntryId) (x : Entry) : (s.setEntry n x).clock = s.clock := rfl
@[simp] theorem State.setEntry_linkI (s : State) (n : EntryId) (x : Entry) : (s.setEntry n x).linkI = s.linkI := rfl
@[simp] theorem State.setEntry_creditsI (s : State) (n : EntryId) (x : Entry) : (s.setEntry n x).creditsI = s.creditsI := rfl
@[simp] theorem State.setEntry_linkT (s : State) (n : EntryId) (x : Entry) : (s.setEntry n x).linkT = s.linkT := rfl
@[simp] theorem State.setEntry_creditsT (s : State) (n : EntryId) (x : Entry) : (s.setEntry n x).creditsT = s.creditsT := rfl
@[simp] theorem State.setEntry_tagMap (s : State) (n : EntryId) (x : Entry) : (s.setEntry n x).tagMap = s.tagMap := rfl
@[simp] theorem State.setEntry_defaultPacer (s : State) (n : EntryId) (x : Entry) : (s.setEntry n x).defaultPacer = s.defaultPacer := rfl
@[simp] theorem State.setEntry_queues (s : State) (n : EntryId) (x : Entry) : (s.setEntry n x).queues = s.queues := rfl
@[simp] theorem State.setEntry_pacers (s : State) (n : EntryId) (x : Entry) : (s.setEntry n x).pacers = s.pacers := rfl
@[simp] theorem State.setEntry_calendar (s : State) (n : EntryId) (x : Entry) : (s.setEntry n x).calendar = s.calendar := rfl
@[simp] theorem State.setEntry_outstanding (s : State) (n : EntryId) (x : Entry) : (s.setEntry n x).outstanding = tableSet s.outstanding n x := rfl
@[simp] theorem State.setEntry_responses (s : State) (n : EntryId) (x : Entry) : (s.setEntry n x).responses = s.responses := rfl
@[simp] theorem State.setEntry_replies (s : State) (n : EntryId) (x : Entry) : (s.setEntry n x).replies = s.replies := rfl
@[simp] theorem State.setEntry_notices (s : State) (n : EntryId) (x : Entry) : (s.setEntry n x).notices = s.notices := rfl
@[simp] theorem State.setEntry_mgmtQueue (s : State) (n : EntryId) (x : Entry) : (s.setEntry n x).mgmtQueue = s.mgmtQueue := rfl
@[simp] theorem State.setEntry_agent (s : State) (n : EntryId) (x : Entry) : (s.setEntry n x).agent = s.agent := rfl
@[simp] theorem State.setEntry_sweeper (s : State) (n : EntryId) (x : Entry) : (s.setEntry n x).sweeper = s.sweeper := rfl
@[simp] theorem State.setEntry_draws (s : State) (n : EntryId) (x : Entry) : (s.setEntry n x).draws = s.draws := rfl
@[simp] theorem State.setEntry_pending (s : State) (n : EntryId) (x : Entry) : (s.setEntry n x).pending = s.pending := rfl
@[simp] theorem State.setEntry_pacer (s : State) (n : EntryId) (x : Entry) (q : PacerId) : (s.setEntry n x).pacer q = s.pacer q := rfl
@[simp] theorem State.setEntry_queue (s : State) (n : EntryId) (x : Entry) (q : PacerId) : (s.setEntry n x).queue q = s.queue q := rfl
@[simp] theorem State.setEntry_binding (s : State) (n : EntryId) (x : Entry) (g : Tag) : (s.setEntry n x).binding g = s.binding g := rfl
@[simp] theorem State.setEntry_manager (s : State) (n : EntryId) (x : Entry) (e : Fin 4) : (s.setEntry n x).manager e = s.manager e := rfl
@[simp] theorem State.setEntry_counter (s : State) (n : EntryId) (x : Entry) (k : Counter) : (s.setEntry n x).counter k = s.counter k := rfl
@[simp] theorem State.setEntry_noticeEnable (s : State) (n : EntryId) (x : Entry) (k : NoticeKind) : (s.setEntry n x).noticeEnable k = s.noticeEnable k := rfl
@[simp] theorem State.setEntry_alertEnable (s : State) (n : EntryId) (x : Entry) : (s.setEntry n x).alertEnable = s.alertEnable := rfl
@[simp] theorem State.setEntry_noticeRoom (s : State) (n : EntryId) (x : Entry) : (s.setEntry n x).noticeRoom = s.noticeRoom := rfl
@[simp] theorem State.setEntry_stamp (s : State) (n : EntryId) (x : Entry) : (s.setEntry n x).stamp = s.stamp := rfl

/-! ### setBinding -/

@[simp] theorem State.setBinding_pins (s : State) (t : Tag) (b : Option PacerId) : (s.setBinding t b).pins = s.pins := rfl
@[simp] theorem State.setBinding_clock (s : State) (t : Tag) (b : Option PacerId) : (s.setBinding t b).clock = s.clock := rfl
@[simp] theorem State.setBinding_linkI (s : State) (t : Tag) (b : Option PacerId) : (s.setBinding t b).linkI = s.linkI := rfl
@[simp] theorem State.setBinding_creditsI (s : State) (t : Tag) (b : Option PacerId) : (s.setBinding t b).creditsI = s.creditsI := rfl
@[simp] theorem State.setBinding_linkT (s : State) (t : Tag) (b : Option PacerId) : (s.setBinding t b).linkT = s.linkT := rfl
@[simp] theorem State.setBinding_creditsT (s : State) (t : Tag) (b : Option PacerId) : (s.setBinding t b).creditsT = s.creditsT := rfl
@[simp] theorem State.setBinding_tagMap (s : State) (t : Tag) (b : Option PacerId) : (s.setBinding t b).tagMap = tableSet s.tagMap (tagIndex t) b := rfl
@[simp] theorem State.setBinding_defaultPacer (s : State) (t : Tag) (b : Option PacerId) : (s.setBinding t b).defaultPacer = s.defaultPacer := rfl
@[simp] theorem State.setBinding_queues (s : State) (t : Tag) (b : Option PacerId) : (s.setBinding t b).queues = s.queues := rfl
@[simp] theorem State.setBinding_pacers (s : State) (t : Tag) (b : Option PacerId) : (s.setBinding t b).pacers = s.pacers := rfl
@[simp] theorem State.setBinding_calendar (s : State) (t : Tag) (b : Option PacerId) : (s.setBinding t b).calendar = s.calendar := rfl
@[simp] theorem State.setBinding_outstanding (s : State) (t : Tag) (b : Option PacerId) : (s.setBinding t b).outstanding = s.outstanding := rfl
@[simp] theorem State.setBinding_responses (s : State) (t : Tag) (b : Option PacerId) : (s.setBinding t b).responses = s.responses := rfl
@[simp] theorem State.setBinding_replies (s : State) (t : Tag) (b : Option PacerId) : (s.setBinding t b).replies = s.replies := rfl
@[simp] theorem State.setBinding_notices (s : State) (t : Tag) (b : Option PacerId) : (s.setBinding t b).notices = s.notices := rfl
@[simp] theorem State.setBinding_mgmtQueue (s : State) (t : Tag) (b : Option PacerId) : (s.setBinding t b).mgmtQueue = s.mgmtQueue := rfl
@[simp] theorem State.setBinding_agent (s : State) (t : Tag) (b : Option PacerId) : (s.setBinding t b).agent = s.agent := rfl
@[simp] theorem State.setBinding_sweeper (s : State) (t : Tag) (b : Option PacerId) : (s.setBinding t b).sweeper = s.sweeper := rfl
@[simp] theorem State.setBinding_draws (s : State) (t : Tag) (b : Option PacerId) : (s.setBinding t b).draws = s.draws := rfl
@[simp] theorem State.setBinding_pending (s : State) (t : Tag) (b : Option PacerId) : (s.setBinding t b).pending = s.pending := rfl
@[simp] theorem State.setBinding_pacer (s : State) (t : Tag) (b : Option PacerId) (q : PacerId) : (s.setBinding t b).pacer q = s.pacer q := rfl
@[simp] theorem State.setBinding_queue (s : State) (t : Tag) (b : Option PacerId) (q : PacerId) : (s.setBinding t b).queue q = s.queue q := rfl
@[simp] theorem State.setBinding_entry (s : State) (t : Tag) (b : Option PacerId) (m : EntryId) : (s.setBinding t b).entry m = s.entry m := rfl
@[simp] theorem State.setBinding_manager (s : State) (t : Tag) (b : Option PacerId) (e : Fin 4) : (s.setBinding t b).manager e = s.manager e := rfl
@[simp] theorem State.setBinding_counter (s : State) (t : Tag) (b : Option PacerId) (k : Counter) : (s.setBinding t b).counter k = s.counter k := rfl
@[simp] theorem State.setBinding_noticeEnable (s : State) (t : Tag) (b : Option PacerId) (k : NoticeKind) : (s.setBinding t b).noticeEnable k = s.noticeEnable k := rfl
@[simp] theorem State.setBinding_alertEnable (s : State) (t : Tag) (b : Option PacerId) : (s.setBinding t b).alertEnable = s.alertEnable := rfl
@[simp] theorem State.setBinding_noticeRoom (s : State) (t : Tag) (b : Option PacerId) : (s.setBinding t b).noticeRoom = s.noticeRoom := rfl
@[simp] theorem State.setBinding_stamp (s : State) (t : Tag) (b : Option PacerId) : (s.setBinding t b).stamp = s.stamp := rfl

/-! ### setManager -/

@[simp] theorem State.setManager_pins (s : State) (i : Fin 4) (x : ManagerEntry) : (s.setManager i x).pins = s.pins := rfl
@[simp] theorem State.setManager_clock (s : State) (i : Fin 4) (x : ManagerEntry) : (s.setManager i x).clock = s.clock := rfl
@[simp] theorem State.setManager_linkI (s : State) (i : Fin 4) (x : ManagerEntry) : (s.setManager i x).linkI = s.linkI := rfl
@[simp] theorem State.setManager_creditsI (s : State) (i : Fin 4) (x : ManagerEntry) : (s.setManager i x).creditsI = s.creditsI := rfl
@[simp] theorem State.setManager_linkT (s : State) (i : Fin 4) (x : ManagerEntry) : (s.setManager i x).linkT = s.linkT := rfl
@[simp] theorem State.setManager_creditsT (s : State) (i : Fin 4) (x : ManagerEntry) : (s.setManager i x).creditsT = s.creditsT := rfl
@[simp] theorem State.setManager_tagMap (s : State) (i : Fin 4) (x : ManagerEntry) : (s.setManager i x).tagMap = s.tagMap := rfl
@[simp] theorem State.setManager_defaultPacer (s : State) (i : Fin 4) (x : ManagerEntry) : (s.setManager i x).defaultPacer = s.defaultPacer := rfl
@[simp] theorem State.setManager_queues (s : State) (i : Fin 4) (x : ManagerEntry) : (s.setManager i x).queues = s.queues := rfl
@[simp] theorem State.setManager_pacers (s : State) (i : Fin 4) (x : ManagerEntry) : (s.setManager i x).pacers = s.pacers := rfl
@[simp] theorem State.setManager_calendar (s : State) (i : Fin 4) (x : ManagerEntry) : (s.setManager i x).calendar = s.calendar := rfl
@[simp] theorem State.setManager_outstanding (s : State) (i : Fin 4) (x : ManagerEntry) : (s.setManager i x).outstanding = s.outstanding := rfl
@[simp] theorem State.setManager_responses (s : State) (i : Fin 4) (x : ManagerEntry) : (s.setManager i x).responses = s.responses := rfl
@[simp] theorem State.setManager_replies (s : State) (i : Fin 4) (x : ManagerEntry) : (s.setManager i x).replies = s.replies := rfl
@[simp] theorem State.setManager_notices (s : State) (i : Fin 4) (x : ManagerEntry) : (s.setManager i x).notices = s.notices := rfl
@[simp] theorem State.setManager_mgmtQueue (s : State) (i : Fin 4) (x : ManagerEntry) : (s.setManager i x).mgmtQueue = s.mgmtQueue := rfl
@[simp] theorem State.setManager_agent (s : State) (i : Fin 4) (x : ManagerEntry) : (s.setManager i x).agent = { s.agent with managers := tableSet s.agent.managers i x } := rfl
@[simp] theorem State.setManager_sweeper (s : State) (i : Fin 4) (x : ManagerEntry) : (s.setManager i x).sweeper = s.sweeper := rfl
@[simp] theorem State.setManager_draws (s : State) (i : Fin 4) (x : ManagerEntry) : (s.setManager i x).draws = s.draws := rfl
@[simp] theorem State.setManager_pending (s : State) (i : Fin 4) (x : ManagerEntry) : (s.setManager i x).pending = s.pending := rfl
@[simp] theorem State.setManager_pacer (s : State) (i : Fin 4) (x : ManagerEntry) (q : PacerId) : (s.setManager i x).pacer q = s.pacer q := rfl
@[simp] theorem State.setManager_queue (s : State) (i : Fin 4) (x : ManagerEntry) (q : PacerId) : (s.setManager i x).queue q = s.queue q := rfl
@[simp] theorem State.setManager_entry (s : State) (i : Fin 4) (x : ManagerEntry) (m : EntryId) : (s.setManager i x).entry m = s.entry m := rfl
@[simp] theorem State.setManager_binding (s : State) (i : Fin 4) (x : ManagerEntry) (g : Tag) : (s.setManager i x).binding g = s.binding g := rfl
@[simp] theorem State.setManager_counter (s : State) (i : Fin 4) (x : ManagerEntry) (k : Counter) : (s.setManager i x).counter k = s.counter k := rfl
@[simp] theorem State.setManager_noticeEnable (s : State) (i : Fin 4) (x : ManagerEntry) (k : NoticeKind) : (s.setManager i x).noticeEnable k = s.noticeEnable k := rfl
@[simp] theorem State.setManager_alertEnable (s : State) (i : Fin 4) (x : ManagerEntry) : (s.setManager i x).alertEnable = s.alertEnable := rfl
@[simp] theorem State.setManager_noticeRoom (s : State) (i : Fin 4) (x : ManagerEntry) : (s.setManager i x).noticeRoom = s.noticeRoom := rfl
@[simp] theorem State.setManager_stamp (s : State) (i : Fin 4) (x : ManagerEntry) : (s.setManager i x).stamp = s.stamp := rfl

/-! ### setCounterAt -/

@[simp] theorem State.setCounterAt_pins (s : State) (i : Fin 16) (v : BitVec 32) : (s.setCounterAt i v).pins = s.pins := rfl
@[simp] theorem State.setCounterAt_clock (s : State) (i : Fin 16) (v : BitVec 32) : (s.setCounterAt i v).clock = s.clock := rfl
@[simp] theorem State.setCounterAt_linkI (s : State) (i : Fin 16) (v : BitVec 32) : (s.setCounterAt i v).linkI = s.linkI := rfl
@[simp] theorem State.setCounterAt_creditsI (s : State) (i : Fin 16) (v : BitVec 32) : (s.setCounterAt i v).creditsI = s.creditsI := rfl
@[simp] theorem State.setCounterAt_linkT (s : State) (i : Fin 16) (v : BitVec 32) : (s.setCounterAt i v).linkT = s.linkT := rfl
@[simp] theorem State.setCounterAt_creditsT (s : State) (i : Fin 16) (v : BitVec 32) : (s.setCounterAt i v).creditsT = s.creditsT := rfl
@[simp] theorem State.setCounterAt_tagMap (s : State) (i : Fin 16) (v : BitVec 32) : (s.setCounterAt i v).tagMap = s.tagMap := rfl
@[simp] theorem State.setCounterAt_defaultPacer (s : State) (i : Fin 16) (v : BitVec 32) : (s.setCounterAt i v).defaultPacer = s.defaultPacer := rfl
@[simp] theorem State.setCounterAt_queues (s : State) (i : Fin 16) (v : BitVec 32) : (s.setCounterAt i v).queues = s.queues := rfl
@[simp] theorem State.setCounterAt_pacers (s : State) (i : Fin 16) (v : BitVec 32) : (s.setCounterAt i v).pacers = s.pacers := rfl
@[simp] theorem State.setCounterAt_calendar (s : State) (i : Fin 16) (v : BitVec 32) : (s.setCounterAt i v).calendar = s.calendar := rfl
@[simp] theorem State.setCounterAt_outstanding (s : State) (i : Fin 16) (v : BitVec 32) : (s.setCounterAt i v).outstanding = s.outstanding := rfl
@[simp] theorem State.setCounterAt_responses (s : State) (i : Fin 16) (v : BitVec 32) : (s.setCounterAt i v).responses = s.responses := rfl
@[simp] theorem State.setCounterAt_replies (s : State) (i : Fin 16) (v : BitVec 32) : (s.setCounterAt i v).replies = s.replies := rfl
@[simp] theorem State.setCounterAt_notices (s : State) (i : Fin 16) (v : BitVec 32) : (s.setCounterAt i v).notices = s.notices := rfl
@[simp] theorem State.setCounterAt_mgmtQueue (s : State) (i : Fin 16) (v : BitVec 32) : (s.setCounterAt i v).mgmtQueue = s.mgmtQueue := rfl
@[simp] theorem State.setCounterAt_agent (s : State) (i : Fin 16) (v : BitVec 32) : (s.setCounterAt i v).agent = { s.agent with counters := tableSet s.agent.counters i v } := rfl
@[simp] theorem State.setCounterAt_sweeper (s : State) (i : Fin 16) (v : BitVec 32) : (s.setCounterAt i v).sweeper = s.sweeper := rfl
@[simp] theorem State.setCounterAt_draws (s : State) (i : Fin 16) (v : BitVec 32) : (s.setCounterAt i v).draws = s.draws := rfl
@[simp] theorem State.setCounterAt_pending (s : State) (i : Fin 16) (v : BitVec 32) : (s.setCounterAt i v).pending = s.pending := rfl
@[simp] theorem State.setCounterAt_pacer (s : State) (i : Fin 16) (v : BitVec 32) (q : PacerId) : (s.setCounterAt i v).pacer q = s.pacer q := rfl
@[simp] theorem State.setCounterAt_queue (s : State) (i : Fin 16) (v : BitVec 32) (q : PacerId) : (s.setCounterAt i v).queue q = s.queue q := rfl
@[simp] theorem State.setCounterAt_entry (s : State) (i : Fin 16) (v : BitVec 32) (m : EntryId) : (s.setCounterAt i v).entry m = s.entry m := rfl
@[simp] theorem State.setCounterAt_binding (s : State) (i : Fin 16) (v : BitVec 32) (g : Tag) : (s.setCounterAt i v).binding g = s.binding g := rfl
@[simp] theorem State.setCounterAt_manager (s : State) (i : Fin 16) (v : BitVec 32) (e : Fin 4) : (s.setCounterAt i v).manager e = s.manager e := rfl
@[simp] theorem State.setCounterAt_noticeEnable (s : State) (i : Fin 16) (v : BitVec 32) (k : NoticeKind) : (s.setCounterAt i v).noticeEnable k = s.noticeEnable k := rfl
@[simp] theorem State.setCounterAt_alertEnable (s : State) (i : Fin 16) (v : BitVec 32) : (s.setCounterAt i v).alertEnable = s.alertEnable := rfl
@[simp] theorem State.setCounterAt_noticeRoom (s : State) (i : Fin 16) (v : BitVec 32) : (s.setCounterAt i v).noticeRoom = s.noticeRoom := rfl
@[simp] theorem State.setCounterAt_stamp (s : State) (i : Fin 16) (v : BitVec 32) : (s.setCounterAt i v).stamp = s.stamp := rfl

/-! ### handI -/

@[simp] theorem State.handI_pins (s : State) (pkt : Packet) : (s.handI pkt).pins = s.pins := rfl
@[simp] theorem State.handI_clock (s : State) (pkt : Packet) : (s.handI pkt).clock = s.clock := rfl
@[simp] theorem State.handI_linkI (s : State) (pkt : Packet) : (s.handI pkt).linkI = { s.linkI with lane := s.linkI.lane ++ [pkt.wire] } := rfl
@[simp] theorem State.handI_creditsI (s : State) (pkt : Packet) : (s.handI pkt).creditsI = s.creditsI := rfl
@[simp] theorem State.handI_linkT (s : State) (pkt : Packet) : (s.handI pkt).linkT = s.linkT := rfl
@[simp] theorem State.handI_creditsT (s : State) (pkt : Packet) : (s.handI pkt).creditsT = s.creditsT := rfl
@[simp] theorem State.handI_tagMap (s : State) (pkt : Packet) : (s.handI pkt).tagMap = s.tagMap := rfl
@[simp] theorem State.handI_defaultPacer (s : State) (pkt : Packet) : (s.handI pkt).defaultPacer = s.defaultPacer := rfl
@[simp] theorem State.handI_queues (s : State) (pkt : Packet) : (s.handI pkt).queues = s.queues := rfl
@[simp] theorem State.handI_pacers (s : State) (pkt : Packet) : (s.handI pkt).pacers = s.pacers := rfl
@[simp] theorem State.handI_calendar (s : State) (pkt : Packet) : (s.handI pkt).calendar = s.calendar := rfl
@[simp] theorem State.handI_outstanding (s : State) (pkt : Packet) : (s.handI pkt).outstanding = s.outstanding := rfl
@[simp] theorem State.handI_responses (s : State) (pkt : Packet) : (s.handI pkt).responses = s.responses := rfl
@[simp] theorem State.handI_replies (s : State) (pkt : Packet) : (s.handI pkt).replies = s.replies := rfl
@[simp] theorem State.handI_notices (s : State) (pkt : Packet) : (s.handI pkt).notices = s.notices := rfl
@[simp] theorem State.handI_mgmtQueue (s : State) (pkt : Packet) : (s.handI pkt).mgmtQueue = s.mgmtQueue := rfl
@[simp] theorem State.handI_agent (s : State) (pkt : Packet) : (s.handI pkt).agent = s.agent := rfl
@[simp] theorem State.handI_sweeper (s : State) (pkt : Packet) : (s.handI pkt).sweeper = s.sweeper := rfl
@[simp] theorem State.handI_draws (s : State) (pkt : Packet) : (s.handI pkt).draws = s.draws := rfl
@[simp] theorem State.handI_pending (s : State) (pkt : Packet) : (s.handI pkt).pending = s.pending := rfl
@[simp] theorem State.handI_pacer (s : State) (pkt : Packet) (q : PacerId) : (s.handI pkt).pacer q = s.pacer q := rfl
@[simp] theorem State.handI_queue (s : State) (pkt : Packet) (q : PacerId) : (s.handI pkt).queue q = s.queue q := rfl
@[simp] theorem State.handI_entry (s : State) (pkt : Packet) (m : EntryId) : (s.handI pkt).entry m = s.entry m := rfl
@[simp] theorem State.handI_binding (s : State) (pkt : Packet) (g : Tag) : (s.handI pkt).binding g = s.binding g := rfl
@[simp] theorem State.handI_manager (s : State) (pkt : Packet) (e : Fin 4) : (s.handI pkt).manager e = s.manager e := rfl
@[simp] theorem State.handI_counter (s : State) (pkt : Packet) (k : Counter) : (s.handI pkt).counter k = s.counter k := rfl
@[simp] theorem State.handI_noticeEnable (s : State) (pkt : Packet) (k : NoticeKind) : (s.handI pkt).noticeEnable k = s.noticeEnable k := rfl
@[simp] theorem State.handI_alertEnable (s : State) (pkt : Packet) : (s.handI pkt).alertEnable = s.alertEnable := rfl
@[simp] theorem State.handI_noticeRoom (s : State) (pkt : Packet) : (s.handI pkt).noticeRoom = s.noticeRoom := rfl
@[simp] theorem State.handI_stamp (s : State) (pkt : Packet) : (s.handI pkt).stamp = s.stamp := rfl

/-! ### handT -/

@[simp] theorem State.handT_pins (s : State) (pkt : Packet) : (s.handT pkt).pins = s.pins := rfl
@[simp] theorem State.handT_clock (s : State) (pkt : Packet) : (s.handT pkt).clock = s.clock := rfl
@[simp] theorem State.handT_linkI (s : State) (pkt : Packet) : (s.handT pkt).linkI = s.linkI := rfl
@[simp] theorem State.handT_creditsI (s : State) (pkt : Packet) : (s.handT pkt).creditsI = s.creditsI := rfl
@[simp] theorem State.handT_linkT (s : State) (pkt : Packet) : (s.handT pkt).linkT = { s.linkT with lane := s.linkT.lane ++ [pkt.wire] } := rfl
@[simp] theorem State.handT_creditsT (s : State) (pkt : Packet) : (s.handT pkt).creditsT = s.creditsT := rfl
@[simp] theorem State.handT_tagMap (s : State) (pkt : Packet) : (s.handT pkt).tagMap = s.tagMap := rfl
@[simp] theorem State.handT_defaultPacer (s : State) (pkt : Packet) : (s.handT pkt).defaultPacer = s.defaultPacer := rfl
@[simp] theorem State.handT_queues (s : State) (pkt : Packet) : (s.handT pkt).queues = s.queues := rfl
@[simp] theorem State.handT_pacers (s : State) (pkt : Packet) : (s.handT pkt).pacers = s.pacers := rfl
@[simp] theorem State.handT_calendar (s : State) (pkt : Packet) : (s.handT pkt).calendar = s.calendar := rfl
@[simp] theorem State.handT_outstanding (s : State) (pkt : Packet) : (s.handT pkt).outstanding = s.outstanding := rfl
@[simp] theorem State.handT_responses (s : State) (pkt : Packet) : (s.handT pkt).responses = s.responses := rfl
@[simp] theorem State.handT_replies (s : State) (pkt : Packet) : (s.handT pkt).replies = s.replies := rfl
@[simp] theorem State.handT_notices (s : State) (pkt : Packet) : (s.handT pkt).notices = s.notices := rfl
@[simp] theorem State.handT_mgmtQueue (s : State) (pkt : Packet) : (s.handT pkt).mgmtQueue = s.mgmtQueue := rfl
@[simp] theorem State.handT_agent (s : State) (pkt : Packet) : (s.handT pkt).agent = s.agent := rfl
@[simp] theorem State.handT_sweeper (s : State) (pkt : Packet) : (s.handT pkt).sweeper = s.sweeper := rfl
@[simp] theorem State.handT_draws (s : State) (pkt : Packet) : (s.handT pkt).draws = s.draws := rfl
@[simp] theorem State.handT_pending (s : State) (pkt : Packet) : (s.handT pkt).pending = s.pending := rfl
@[simp] theorem State.handT_pacer (s : State) (pkt : Packet) (q : PacerId) : (s.handT pkt).pacer q = s.pacer q := rfl
@[simp] theorem State.handT_queue (s : State) (pkt : Packet) (q : PacerId) : (s.handT pkt).queue q = s.queue q := rfl
@[simp] theorem State.handT_entry (s : State) (pkt : Packet) (m : EntryId) : (s.handT pkt).entry m = s.entry m := rfl
@[simp] theorem State.handT_binding (s : State) (pkt : Packet) (g : Tag) : (s.handT pkt).binding g = s.binding g := rfl
@[simp] theorem State.handT_manager (s : State) (pkt : Packet) (e : Fin 4) : (s.handT pkt).manager e = s.manager e := rfl
@[simp] theorem State.handT_counter (s : State) (pkt : Packet) (k : Counter) : (s.handT pkt).counter k = s.counter k := rfl
@[simp] theorem State.handT_noticeEnable (s : State) (pkt : Packet) (k : NoticeKind) : (s.handT pkt).noticeEnable k = s.noticeEnable k := rfl
@[simp] theorem State.handT_alertEnable (s : State) (pkt : Packet) : (s.handT pkt).alertEnable = s.alertEnable := rfl
@[simp] theorem State.handT_noticeRoom (s : State) (pkt : Packet) : (s.handT pkt).noticeRoom = s.noticeRoom := rfl
@[simp] theorem State.handT_stamp (s : State) (pkt : Packet) : (s.handT pkt).stamp = s.stamp := rfl

/-! ### setCursor -/

@[simp] theorem State.setCursor_pins (s : State) (c : SweepCursor) : (s.setCursor c).pins = s.pins := rfl
@[simp] theorem State.setCursor_clock (s : State) (c : SweepCursor) : (s.setCursor c).clock = s.clock := rfl
@[simp] theorem State.setCursor_linkI (s : State) (c : SweepCursor) : (s.setCursor c).linkI = s.linkI := rfl
@[simp] theorem State.setCursor_creditsI (s : State) (c : SweepCursor) : (s.setCursor c).creditsI = s.creditsI := rfl
@[simp] theorem State.setCursor_linkT (s : State) (c : SweepCursor) : (s.setCursor c).linkT = s.linkT := rfl
@[simp] theorem State.setCursor_creditsT (s : State) (c : SweepCursor) : (s.setCursor c).creditsT = s.creditsT := rfl
@[simp] theorem State.setCursor_tagMap (s : State) (c : SweepCursor) : (s.setCursor c).tagMap = s.tagMap := rfl
@[simp] theorem State.setCursor_defaultPacer (s : State) (c : SweepCursor) : (s.setCursor c).defaultPacer = s.defaultPacer := rfl
@[simp] theorem State.setCursor_queues (s : State) (c : SweepCursor) : (s.setCursor c).queues = s.queues := rfl
@[simp] theorem State.setCursor_pacers (s : State) (c : SweepCursor) : (s.setCursor c).pacers = s.pacers := rfl
@[simp] theorem State.setCursor_calendar (s : State) (c : SweepCursor) : (s.setCursor c).calendar = s.calendar := rfl
@[simp] theorem State.setCursor_outstanding (s : State) (c : SweepCursor) : (s.setCursor c).outstanding = s.outstanding := rfl
@[simp] theorem State.setCursor_responses (s : State) (c : SweepCursor) : (s.setCursor c).responses = s.responses := rfl
@[simp] theorem State.setCursor_replies (s : State) (c : SweepCursor) : (s.setCursor c).replies = s.replies := rfl
@[simp] theorem State.setCursor_notices (s : State) (c : SweepCursor) : (s.setCursor c).notices = s.notices := rfl
@[simp] theorem State.setCursor_mgmtQueue (s : State) (c : SweepCursor) : (s.setCursor c).mgmtQueue = s.mgmtQueue := rfl
@[simp] theorem State.setCursor_agent (s : State) (c : SweepCursor) : (s.setCursor c).agent = s.agent := rfl
@[simp] theorem State.setCursor_sweeper (s : State) (c : SweepCursor) : (s.setCursor c).sweeper = { s.sweeper with cursor := c } := rfl
@[simp] theorem State.setCursor_draws (s : State) (c : SweepCursor) : (s.setCursor c).draws = s.draws := rfl
@[simp] theorem State.setCursor_pending (s : State) (c : SweepCursor) : (s.setCursor c).pending = s.pending := rfl
@[simp] theorem State.setCursor_pacer (s : State) (c : SweepCursor) (q : PacerId) : (s.setCursor c).pacer q = s.pacer q := rfl
@[simp] theorem State.setCursor_queue (s : State) (c : SweepCursor) (q : PacerId) : (s.setCursor c).queue q = s.queue q := rfl
@[simp] theorem State.setCursor_entry (s : State) (c : SweepCursor) (m : EntryId) : (s.setCursor c).entry m = s.entry m := rfl
@[simp] theorem State.setCursor_binding (s : State) (c : SweepCursor) (g : Tag) : (s.setCursor c).binding g = s.binding g := rfl
@[simp] theorem State.setCursor_manager (s : State) (c : SweepCursor) (e : Fin 4) : (s.setCursor c).manager e = s.manager e := rfl
@[simp] theorem State.setCursor_counter (s : State) (c : SweepCursor) (k : Counter) : (s.setCursor c).counter k = s.counter k := rfl
@[simp] theorem State.setCursor_noticeEnable (s : State) (c : SweepCursor) (k : NoticeKind) : (s.setCursor c).noticeEnable k = s.noticeEnable k := rfl
@[simp] theorem State.setCursor_alertEnable (s : State) (c : SweepCursor) : (s.setCursor c).alertEnable = s.alertEnable := rfl
@[simp] theorem State.setCursor_noticeRoom (s : State) (c : SweepCursor) : (s.setCursor c).noticeRoom = s.noticeRoom := rfl
@[simp] theorem State.setCursor_stamp (s : State) (c : SweepCursor) : (s.setCursor c).stamp = s.stamp := rfl

/-! ### joinCalendar -/

@[simp] theorem joinCalendar_pins (s : State) (p : PacerId) : (joinCalendar p s).pins = s.pins := rfl
@[simp] theorem joinCalendar_clock (s : State) (p : PacerId) : (joinCalendar p s).clock = s.clock := rfl
@[simp] theorem joinCalendar_linkI (s : State) (p : PacerId) : (joinCalendar p s).linkI = s.linkI := rfl
@[simp] theorem joinCalendar_creditsI (s : State) (p : PacerId) : (joinCalendar p s).creditsI = s.creditsI := rfl
@[simp] theorem joinCalendar_linkT (s : State) (p : PacerId) : (joinCalendar p s).linkT = s.linkT := rfl
@[simp] theorem joinCalendar_creditsT (s : State) (p : PacerId) : (joinCalendar p s).creditsT = s.creditsT := rfl
@[simp] theorem joinCalendar_tagMap (s : State) (p : PacerId) : (joinCalendar p s).tagMap = s.tagMap := rfl
@[simp] theorem joinCalendar_defaultPacer (s : State) (p : PacerId) : (joinCalendar p s).defaultPacer = s.defaultPacer := rfl
@[simp] theorem joinCalendar_queues (s : State) (p : PacerId) : (joinCalendar p s).queues = s.queues := rfl
@[simp] theorem joinCalendar_pacers (s : State) (p : PacerId) : (joinCalendar p s).pacers = s.pacers := rfl
@[simp] theorem joinCalendar_calendar (s : State) (p : PacerId) : (joinCalendar p s).calendar = insertPacer p s.calendar := rfl
@[simp] theorem joinCalendar_outstanding (s : State) (p : PacerId) : (joinCalendar p s).outstanding = s.outstanding := rfl
@[simp] theorem joinCalendar_responses (s : State) (p : PacerId) : (joinCalendar p s).responses = s.responses := rfl
@[simp] theorem joinCalendar_replies (s : State) (p : PacerId) : (joinCalendar p s).replies = s.replies := rfl
@[simp] theorem joinCalendar_notices (s : State) (p : PacerId) : (joinCalendar p s).notices = s.notices := rfl
@[simp] theorem joinCalendar_mgmtQueue (s : State) (p : PacerId) : (joinCalendar p s).mgmtQueue = s.mgmtQueue := rfl
@[simp] theorem joinCalendar_agent (s : State) (p : PacerId) : (joinCalendar p s).agent = s.agent := rfl
@[simp] theorem joinCalendar_sweeper (s : State) (p : PacerId) : (joinCalendar p s).sweeper = s.sweeper := rfl
@[simp] theorem joinCalendar_draws (s : State) (p : PacerId) : (joinCalendar p s).draws = s.draws := rfl
@[simp] theorem joinCalendar_pending (s : State) (p : PacerId) : (joinCalendar p s).pending = s.pending := rfl
@[simp] theorem joinCalendar_pacer (s : State) (p : PacerId) (q : PacerId) : (joinCalendar p s).pacer q = s.pacer q := rfl
@[simp] theorem joinCalendar_queue (s : State) (p : PacerId) (q : PacerId) : (joinCalendar p s).queue q = s.queue q := rfl
@[simp] theorem joinCalendar_entry (s : State) (p : PacerId) (m : EntryId) : (joinCalendar p s).entry m = s.entry m := rfl
@[simp] theorem joinCalendar_binding (s : State) (p : PacerId) (g : Tag) : (joinCalendar p s).binding g = s.binding g := rfl
@[simp] theorem joinCalendar_manager (s : State) (p : PacerId) (e : Fin 4) : (joinCalendar p s).manager e = s.manager e := rfl
@[simp] theorem joinCalendar_counter (s : State) (p : PacerId) (k : Counter) : (joinCalendar p s).counter k = s.counter k := rfl
@[simp] theorem joinCalendar_noticeEnable (s : State) (p : PacerId) (k : NoticeKind) : (joinCalendar p s).noticeEnable k = s.noticeEnable k := rfl
@[simp] theorem joinCalendar_alertEnable (s : State) (p : PacerId) : (joinCalendar p s).alertEnable = s.alertEnable := rfl
@[simp] theorem joinCalendar_noticeRoom (s : State) (p : PacerId) : (joinCalendar p s).noticeRoom = s.noticeRoom := rfl
@[simp] theorem joinCalendar_stamp (s : State) (p : PacerId) : (joinCalendar p s).stamp = s.stamp := rfl

/-! ### leaveCalendar -/

@[simp] theorem leaveCalendar_pins (s : State) (p : PacerId) : (leaveCalendar p s).pins = s.pins := rfl
@[simp] theorem leaveCalendar_clock (s : State) (p : PacerId) : (leaveCalendar p s).clock = s.clock := rfl
@[simp] theorem leaveCalendar_linkI (s : State) (p : PacerId) : (leaveCalendar p s).linkI = s.linkI := rfl
@[simp] theorem leaveCalendar_creditsI (s : State) (p : PacerId) : (leaveCalendar p s).creditsI = s.creditsI := rfl
@[simp] theorem leaveCalendar_linkT (s : State) (p : PacerId) : (leaveCalendar p s).linkT = s.linkT := rfl
@[simp] theorem leaveCalendar_creditsT (s : State) (p : PacerId) : (leaveCalendar p s).creditsT = s.creditsT := rfl
@[simp] theorem leaveCalendar_tagMap (s : State) (p : PacerId) : (leaveCalendar p s).tagMap = s.tagMap := rfl
@[simp] theorem leaveCalendar_defaultPacer (s : State) (p : PacerId) : (leaveCalendar p s).defaultPacer = s.defaultPacer := rfl
@[simp] theorem leaveCalendar_queues (s : State) (p : PacerId) : (leaveCalendar p s).queues = s.queues := rfl
@[simp] theorem leaveCalendar_pacers (s : State) (p : PacerId) : (leaveCalendar p s).pacers = s.pacers := rfl
@[simp] theorem leaveCalendar_calendar (s : State) (p : PacerId) : (leaveCalendar p s).calendar = s.calendar.filter (fun q => q != p) := rfl
@[simp] theorem leaveCalendar_outstanding (s : State) (p : PacerId) : (leaveCalendar p s).outstanding = s.outstanding := rfl
@[simp] theorem leaveCalendar_responses (s : State) (p : PacerId) : (leaveCalendar p s).responses = s.responses := rfl
@[simp] theorem leaveCalendar_replies (s : State) (p : PacerId) : (leaveCalendar p s).replies = s.replies := rfl
@[simp] theorem leaveCalendar_notices (s : State) (p : PacerId) : (leaveCalendar p s).notices = s.notices := rfl
@[simp] theorem leaveCalendar_mgmtQueue (s : State) (p : PacerId) : (leaveCalendar p s).mgmtQueue = s.mgmtQueue := rfl
@[simp] theorem leaveCalendar_agent (s : State) (p : PacerId) : (leaveCalendar p s).agent = s.agent := rfl
@[simp] theorem leaveCalendar_sweeper (s : State) (p : PacerId) : (leaveCalendar p s).sweeper = s.sweeper := rfl
@[simp] theorem leaveCalendar_draws (s : State) (p : PacerId) : (leaveCalendar p s).draws = s.draws := rfl
@[simp] theorem leaveCalendar_pending (s : State) (p : PacerId) : (leaveCalendar p s).pending = s.pending := rfl
@[simp] theorem leaveCalendar_pacer (s : State) (p : PacerId) (q : PacerId) : (leaveCalendar p s).pacer q = s.pacer q := rfl
@[simp] theorem leaveCalendar_queue (s : State) (p : PacerId) (q : PacerId) : (leaveCalendar p s).queue q = s.queue q := rfl
@[simp] theorem leaveCalendar_entry (s : State) (p : PacerId) (m : EntryId) : (leaveCalendar p s).entry m = s.entry m := rfl
@[simp] theorem leaveCalendar_binding (s : State) (p : PacerId) (g : Tag) : (leaveCalendar p s).binding g = s.binding g := rfl
@[simp] theorem leaveCalendar_manager (s : State) (p : PacerId) (e : Fin 4) : (leaveCalendar p s).manager e = s.manager e := rfl
@[simp] theorem leaveCalendar_counter (s : State) (p : PacerId) (k : Counter) : (leaveCalendar p s).counter k = s.counter k := rfl
@[simp] theorem leaveCalendar_noticeEnable (s : State) (p : PacerId) (k : NoticeKind) : (leaveCalendar p s).noticeEnable k = s.noticeEnable k := rfl
@[simp] theorem leaveCalendar_alertEnable (s : State) (p : PacerId) : (leaveCalendar p s).alertEnable = s.alertEnable := rfl
@[simp] theorem leaveCalendar_noticeRoom (s : State) (p : PacerId) : (leaveCalendar p s).noticeRoom = s.noticeRoom := rfl
@[simp] theorem leaveCalendar_stamp (s : State) (p : PacerId) : (leaveCalendar p s).stamp = s.stamp := rfl

/-! ### pushReply -/

@[simp] theorem pushReply_pins (s : State) (i : ReplyItem) : (pushReply i s).pins = s.pins := rfl
@[simp] theorem pushReply_clock (s : State) (i : ReplyItem) : (pushReply i s).clock = s.clock := rfl
@[simp] theorem pushReply_linkI (s : State) (i : ReplyItem) : (pushReply i s).linkI = s.linkI := rfl
@[simp] theorem pushReply_creditsI (s : State) (i : ReplyItem) : (pushReply i s).creditsI = s.creditsI := rfl
@[simp] theorem pushReply_linkT (s : State) (i : ReplyItem) : (pushReply i s).linkT = s.linkT := rfl
@[simp] theorem pushReply_creditsT (s : State) (i : ReplyItem) : (pushReply i s).creditsT = s.creditsT := rfl
@[simp] theorem pushReply_tagMap (s : State) (i : ReplyItem) : (pushReply i s).tagMap = s.tagMap := rfl
@[simp] theorem pushReply_defaultPacer (s : State) (i : ReplyItem) : (pushReply i s).defaultPacer = s.defaultPacer := rfl
@[simp] theorem pushReply_queues (s : State) (i : ReplyItem) : (pushReply i s).queues = s.queues := rfl
@[simp] theorem pushReply_pacers (s : State) (i : ReplyItem) : (pushReply i s).pacers = s.pacers := rfl
@[simp] theorem pushReply_calendar (s : State) (i : ReplyItem) : (pushReply i s).calendar = s.calendar := rfl
@[simp] theorem pushReply_outstanding (s : State) (i : ReplyItem) : (pushReply i s).outstanding = s.outstanding := rfl
@[simp] theorem pushReply_responses (s : State) (i : ReplyItem) : (pushReply i s).responses = s.responses := rfl
@[simp] theorem pushReply_replies (s : State) (i : ReplyItem) : (pushReply i s).replies = s.replies ++ [i] := rfl
@[simp] theorem pushReply_notices (s : State) (i : ReplyItem) : (pushReply i s).notices = s.notices := rfl
@[simp] theorem pushReply_mgmtQueue (s : State) (i : ReplyItem) : (pushReply i s).mgmtQueue = s.mgmtQueue := rfl
@[simp] theorem pushReply_agent (s : State) (i : ReplyItem) : (pushReply i s).agent = s.agent := rfl
@[simp] theorem pushReply_sweeper (s : State) (i : ReplyItem) : (pushReply i s).sweeper = s.sweeper := rfl
@[simp] theorem pushReply_draws (s : State) (i : ReplyItem) : (pushReply i s).draws = s.draws := rfl
@[simp] theorem pushReply_pending (s : State) (i : ReplyItem) : (pushReply i s).pending = s.pending := rfl
@[simp] theorem pushReply_pacer (s : State) (i : ReplyItem) (q : PacerId) : (pushReply i s).pacer q = s.pacer q := rfl
@[simp] theorem pushReply_queue (s : State) (i : ReplyItem) (q : PacerId) : (pushReply i s).queue q = s.queue q := rfl
@[simp] theorem pushReply_entry (s : State) (i : ReplyItem) (m : EntryId) : (pushReply i s).entry m = s.entry m := rfl
@[simp] theorem pushReply_binding (s : State) (i : ReplyItem) (g : Tag) : (pushReply i s).binding g = s.binding g := rfl
@[simp] theorem pushReply_manager (s : State) (i : ReplyItem) (e : Fin 4) : (pushReply i s).manager e = s.manager e := rfl
@[simp] theorem pushReply_counter (s : State) (i : ReplyItem) (k : Counter) : (pushReply i s).counter k = s.counter k := rfl
@[simp] theorem pushReply_noticeEnable (s : State) (i : ReplyItem) (k : NoticeKind) : (pushReply i s).noticeEnable k = s.noticeEnable k := rfl
@[simp] theorem pushReply_alertEnable (s : State) (i : ReplyItem) : (pushReply i s).alertEnable = s.alertEnable := rfl
@[simp] theorem pushReply_noticeRoom (s : State) (i : ReplyItem) : (pushReply i s).noticeRoom = s.noticeRoom := rfl
@[simp] theorem pushReply_stamp (s : State) (i : ReplyItem) : (pushReply i s).stamp = s.stamp := rfl

/-! ### loseNotice -/

@[simp] theorem State.loseNotice_pins (s : State) : (s.loseNotice).pins = s.pins := rfl
@[simp] theorem State.loseNotice_clock (s : State) : (s.loseNotice).clock = s.clock := rfl
@[simp] theorem State.loseNotice_linkI (s : State) : (s.loseNotice).linkI = s.linkI := rfl
@[simp] theorem State.loseNotice_creditsI (s : State) : (s.loseNotice).creditsI = s.creditsI := rfl
@[simp] theorem State.loseNotice_linkT (s : State) : (s.loseNotice).linkT = s.linkT := rfl
@[simp] theorem State.loseNotice_creditsT (s : State) : (s.loseNotice).creditsT = s.creditsT := rfl
@[simp] theorem State.loseNotice_tagMap (s : State) : (s.loseNotice).tagMap = s.tagMap := rfl
@[simp] theorem State.loseNotice_defaultPacer (s : State) : (s.loseNotice).defaultPacer = s.defaultPacer := rfl
@[simp] theorem State.loseNotice_queues (s : State) : (s.loseNotice).queues = s.queues := rfl
@[simp] theorem State.loseNotice_pacers (s : State) : (s.loseNotice).pacers = s.pacers := rfl
@[simp] theorem State.loseNotice_calendar (s : State) : (s.loseNotice).calendar = s.calendar := rfl
@[simp] theorem State.loseNotice_outstanding (s : State) : (s.loseNotice).outstanding = s.outstanding := rfl
@[simp] theorem State.loseNotice_responses (s : State) : (s.loseNotice).responses = s.responses := rfl
@[simp] theorem State.loseNotice_replies (s : State) : (s.loseNotice).replies = s.replies := rfl
@[simp] theorem State.loseNotice_notices (s : State) : (s.loseNotice).notices = { s.notices with overflow := true } := rfl
@[simp] theorem State.loseNotice_mgmtQueue (s : State) : (s.loseNotice).mgmtQueue = s.mgmtQueue := rfl
@[simp] theorem State.loseNotice_agent (s : State) : (s.loseNotice).agent = s.agent := rfl
@[simp] theorem State.loseNotice_sweeper (s : State) : (s.loseNotice).sweeper = s.sweeper := rfl
@[simp] theorem State.loseNotice_draws (s : State) : (s.loseNotice).draws = s.draws := rfl
@[simp] theorem State.loseNotice_pending (s : State) : (s.loseNotice).pending = s.pending := rfl
@[simp] theorem State.loseNotice_pacer (s : State) (q : PacerId) : (s.loseNotice).pacer q = s.pacer q := rfl
@[simp] theorem State.loseNotice_queue (s : State) (q : PacerId) : (s.loseNotice).queue q = s.queue q := rfl
@[simp] theorem State.loseNotice_entry (s : State) (m : EntryId) : (s.loseNotice).entry m = s.entry m := rfl
@[simp] theorem State.loseNotice_binding (s : State) (g : Tag) : (s.loseNotice).binding g = s.binding g := rfl
@[simp] theorem State.loseNotice_manager (s : State) (e : Fin 4) : (s.loseNotice).manager e = s.manager e := rfl
@[simp] theorem State.loseNotice_counter (s : State) (k : Counter) : (s.loseNotice).counter k = s.counter k := rfl
@[simp] theorem State.loseNotice_noticeEnable (s : State) (k : NoticeKind) : (s.loseNotice).noticeEnable k = s.noticeEnable k := rfl
@[simp] theorem State.loseNotice_alertEnable (s : State) : (s.loseNotice).alertEnable = s.alertEnable := rfl
@[simp] theorem State.loseNotice_noticeRoom (s : State) : (s.loseNotice).noticeRoom = s.noticeRoom := rfl
@[simp] theorem State.loseNotice_stamp (s : State) : (s.loseNotice).stamp = s.stamp := rfl

/-! ### consumeRequestCredit -/

@[simp] theorem consumeRequestCredit_pins (s : State) : (consumeRequestCredit s).pins = s.pins := rfl
@[simp] theorem consumeRequestCredit_clock (s : State) : (consumeRequestCredit s).clock = s.clock := rfl
@[simp] theorem consumeRequestCredit_linkI (s : State) : (consumeRequestCredit s).linkI = s.linkI := rfl
@[simp] theorem consumeRequestCredit_creditsI (s : State) : (consumeRequestCredit s).creditsI = s.creditsI := rfl
@[simp] theorem consumeRequestCredit_linkT (s : State) : (consumeRequestCredit s).linkT = s.linkT := rfl
@[simp] theorem consumeRequestCredit_creditsT (s : State) : (consumeRequestCredit s).creditsT = { s.creditsT with heldReq := s.creditsT.heldReq - 1 } := rfl
@[simp] theorem consumeRequestCredit_tagMap (s : State) : (consumeRequestCredit s).tagMap = s.tagMap := rfl
@[simp] theorem consumeRequestCredit_defaultPacer (s : State) : (consumeRequestCredit s).defaultPacer = s.defaultPacer := rfl
@[simp] theorem consumeRequestCredit_queues (s : State) : (consumeRequestCredit s).queues = s.queues := rfl
@[simp] theorem consumeRequestCredit_pacers (s : State) : (consumeRequestCredit s).pacers = s.pacers := rfl
@[simp] theorem consumeRequestCredit_calendar (s : State) : (consumeRequestCredit s).calendar = s.calendar := rfl
@[simp] theorem consumeRequestCredit_outstanding (s : State) : (consumeRequestCredit s).outstanding = s.outstanding := rfl
@[simp] theorem consumeRequestCredit_responses (s : State) : (consumeRequestCredit s).responses = s.responses := rfl
@[simp] theorem consumeRequestCredit_replies (s : State) : (consumeRequestCredit s).replies = s.replies := rfl
@[simp] theorem consumeRequestCredit_notices (s : State) : (consumeRequestCredit s).notices = s.notices := rfl
@[simp] theorem consumeRequestCredit_mgmtQueue (s : State) : (consumeRequestCredit s).mgmtQueue = s.mgmtQueue := rfl
@[simp] theorem consumeRequestCredit_agent (s : State) : (consumeRequestCredit s).agent = s.agent := rfl
@[simp] theorem consumeRequestCredit_sweeper (s : State) : (consumeRequestCredit s).sweeper = s.sweeper := rfl
@[simp] theorem consumeRequestCredit_draws (s : State) : (consumeRequestCredit s).draws = s.draws := rfl
@[simp] theorem consumeRequestCredit_pending (s : State) : (consumeRequestCredit s).pending = s.pending := rfl
@[simp] theorem consumeRequestCredit_pacer (s : State) (q : PacerId) : (consumeRequestCredit s).pacer q = s.pacer q := rfl
@[simp] theorem consumeRequestCredit_queue (s : State) (q : PacerId) : (consumeRequestCredit s).queue q = s.queue q := rfl
@[simp] theorem consumeRequestCredit_entry (s : State) (m : EntryId) : (consumeRequestCredit s).entry m = s.entry m := rfl
@[simp] theorem consumeRequestCredit_binding (s : State) (g : Tag) : (consumeRequestCredit s).binding g = s.binding g := rfl
@[simp] theorem consumeRequestCredit_manager (s : State) (e : Fin 4) : (consumeRequestCredit s).manager e = s.manager e := rfl
@[simp] theorem consumeRequestCredit_counter (s : State) (k : Counter) : (consumeRequestCredit s).counter k = s.counter k := rfl
@[simp] theorem consumeRequestCredit_noticeEnable (s : State) (k : NoticeKind) : (consumeRequestCredit s).noticeEnable k = s.noticeEnable k := rfl
@[simp] theorem consumeRequestCredit_alertEnable (s : State) : (consumeRequestCredit s).alertEnable = s.alertEnable := rfl
@[simp] theorem consumeRequestCredit_noticeRoom (s : State) : (consumeRequestCredit s).noticeRoom = s.noticeRoom := rfl
@[simp] theorem consumeRequestCredit_stamp (s : State) : (consumeRequestCredit s).stamp = s.stamp := rfl

/-! ### bump -/

@[simp] theorem State.bump_pins (s : State) (c : Counter) : (s.bump c).pins = s.pins := rfl
@[simp] theorem State.bump_clock (s : State) (c : Counter) : (s.bump c).clock = s.clock := rfl
@[simp] theorem State.bump_linkI (s : State) (c : Counter) : (s.bump c).linkI = s.linkI := rfl
@[simp] theorem State.bump_creditsI (s : State) (c : Counter) : (s.bump c).creditsI = s.creditsI := rfl
@[simp] theorem State.bump_linkT (s : State) (c : Counter) : (s.bump c).linkT = s.linkT := rfl
@[simp] theorem State.bump_creditsT (s : State) (c : Counter) : (s.bump c).creditsT = s.creditsT := rfl
@[simp] theorem State.bump_tagMap (s : State) (c : Counter) : (s.bump c).tagMap = s.tagMap := rfl
@[simp] theorem State.bump_defaultPacer (s : State) (c : Counter) : (s.bump c).defaultPacer = s.defaultPacer := rfl
@[simp] theorem State.bump_queues (s : State) (c : Counter) : (s.bump c).queues = s.queues := rfl
@[simp] theorem State.bump_pacers (s : State) (c : Counter) : (s.bump c).pacers = s.pacers := rfl
@[simp] theorem State.bump_calendar (s : State) (c : Counter) : (s.bump c).calendar = s.calendar := rfl
@[simp] theorem State.bump_outstanding (s : State) (c : Counter) : (s.bump c).outstanding = s.outstanding := rfl
@[simp] theorem State.bump_responses (s : State) (c : Counter) : (s.bump c).responses = s.responses := rfl
@[simp] theorem State.bump_replies (s : State) (c : Counter) : (s.bump c).replies = s.replies := rfl
@[simp] theorem State.bump_notices (s : State) (c : Counter) : (s.bump c).notices = s.notices := rfl
@[simp] theorem State.bump_mgmtQueue (s : State) (c : Counter) : (s.bump c).mgmtQueue = s.mgmtQueue := rfl
@[simp] theorem State.bump_sweeper (s : State) (c : Counter) : (s.bump c).sweeper = s.sweeper := rfl
@[simp] theorem State.bump_draws (s : State) (c : Counter) : (s.bump c).draws = s.draws := rfl
@[simp] theorem State.bump_pending (s : State) (c : Counter) : (s.bump c).pending = s.pending := rfl
@[simp] theorem State.bump_pacer (s : State) (c : Counter) (q : PacerId) : (s.bump c).pacer q = s.pacer q := rfl
@[simp] theorem State.bump_queue (s : State) (c : Counter) (q : PacerId) : (s.bump c).queue q = s.queue q := rfl
@[simp] theorem State.bump_entry (s : State) (c : Counter) (m : EntryId) : (s.bump c).entry m = s.entry m := rfl
@[simp] theorem State.bump_binding (s : State) (c : Counter) (g : Tag) : (s.bump c).binding g = s.binding g := rfl
@[simp] theorem State.bump_manager (s : State) (c : Counter) (e : Fin 4) : (s.bump c).manager e = s.manager e := rfl
@[simp] theorem State.bump_noticeEnable (s : State) (c : Counter) (k : NoticeKind) : (s.bump c).noticeEnable k = s.noticeEnable k := rfl
@[simp] theorem State.bump_alertEnable (s : State) (c : Counter) : (s.bump c).alertEnable = s.alertEnable := rfl
@[simp] theorem State.bump_noticeRoom (s : State) (c : Counter) : (s.bump c).noticeRoom = s.noticeRoom := rfl
@[simp] theorem State.bump_stamp (s : State) (c : Counter) : (s.bump c).stamp = s.stamp := rfl

/-! ### The clock -/

@[simp] theorem Clock.pass_pacingTime (c : Clock) (n : Nat) : (c.pass n).pacingTime = c.pacingTime := rfl
@[simp] theorem Clock.pass_tickSpan (c : Clock) (n : Nat) : (c.pass n).tickSpan = c.tickSpan := rfl
@[simp] theorem Clock.pass_tickPast (c : Clock) (n : Nat) : (c.pass n).tickPast = c.tickPast := rfl
@[simp] theorem Clock.tick_pacingTime (c : Clock) (tickLen : BitVec 16) : (c.tick tickLen).pacingTime = c.pacingTime + 1 := rfl
@[simp] theorem Clock.tick_tickSpan (c : Clock) (tickLen : BitVec 16) : (c.tick tickLen).tickSpan = tickLen.toNat := rfl
@[simp] theorem Clock.tick_tickPast (c : Clock) (tickLen : BitVec 16) : (c.tick tickLen).tickPast = 0 := rfl
@[simp] theorem Clock.tick_deviceTime (c : Clock) (tickLen : BitVec 16) : (c.tick tickLen).deviceTime = (c.pass c.tickLeft).deviceTime := rfl
@[simp] theorem Clock.tick_unitsPast (c : Clock) (tickLen : BitVec 16) : (c.tick tickLen).unitsPast = (c.pass c.tickLeft).unitsPast := rfl

/-! ### idle -/

@[simp] theorem idle_clock (s : State) : (idle s).clock = timePasses s := rfl
@[simp] theorem idle_linkI (s : State) : (idle s).linkI = laneSend s.linkI := rfl
@[simp] theorem idle_linkT (s : State) : (idle s).linkT = laneSend s.linkT := rfl
@[simp] theorem idle_pins (s : State) : (idle s).pins = s.pins := rfl
@[simp] theorem idle_creditsI (s : State) : (idle s).creditsI = s.creditsI := rfl
@[simp] theorem idle_creditsT (s : State) : (idle s).creditsT = s.creditsT := rfl
@[simp] theorem idle_tagMap (s : State) : (idle s).tagMap = s.tagMap := rfl
@[simp] theorem idle_defaultPacer (s : State) : (idle s).defaultPacer = s.defaultPacer := rfl
@[simp] theorem idle_queues (s : State) : (idle s).queues = s.queues := rfl
@[simp] theorem idle_pacers (s : State) : (idle s).pacers = s.pacers := rfl
@[simp] theorem idle_calendar (s : State) : (idle s).calendar = s.calendar := rfl
@[simp] theorem idle_outstanding (s : State) : (idle s).outstanding = s.outstanding := rfl
@[simp] theorem idle_responses (s : State) : (idle s).responses = s.responses := rfl
@[simp] theorem idle_replies (s : State) : (idle s).replies = s.replies := rfl
@[simp] theorem idle_notices (s : State) : (idle s).notices = s.notices := rfl
@[simp] theorem idle_mgmtQueue (s : State) : (idle s).mgmtQueue = s.mgmtQueue := rfl
@[simp] theorem idle_agent (s : State) : (idle s).agent = s.agent := rfl
@[simp] theorem idle_sweeper (s : State) : (idle s).sweeper = s.sweeper := rfl
@[simp] theorem idle_draws (s : State) : (idle s).draws = s.draws := rfl
@[simp] theorem idle_pending (s : State) : (idle s).pending = s.pending := rfl
@[simp] theorem idle_pacer (s : State) (p : PacerId) : (idle s).pacer p = s.pacer p := rfl
@[simp] theorem idle_queue (s : State) (p : PacerId) : (idle s).queue p = s.queue p := rfl
@[simp] theorem idle_entry (s : State) (n : EntryId) : (idle s).entry n = s.entry n := rfl
@[simp] theorem idle_binding (s : State) (t : Tag) : (idle s).binding t = s.binding t := rfl
@[simp] theorem idle_manager (s : State) (e : Fin 4) : (idle s).manager e = s.manager e := rfl
@[simp] theorem idle_counter (s : State) (c : Counter) : (idle s).counter c = s.counter c := rfl
@[simp] theorem laneSend_state (l : Link) : (laneSend l).state = l.state := by
  cases h : l.state <;> simp [laneSend, h]
@[simp] theorem laneSend_resend (l : Link) : (laneSend l).resend = l.resend := by
  cases h : l.state <;> simp [laneSend, h]

/-! ### The wire form of a packet -/

@[simp] theorem wire_packet (p : Packet) : p.wire.packet = p := rfl
@[simp] theorem wire_check (p : Packet) : p.wire.check = p.checkWord := rfl

end Sys2Proof.Machine
end

