-- ==== Sys2Proof/Laws/Ops.lean ====
section
/-!
SUPPORT. For each shared operation, one lemma that says what it can do: the value it leaves, or the frame of what it leaves
unchanged. The statements for the provers are not among them.
-/

namespace Sys2Proof.Machine

/-! ### Alerts and notices (chapter 08) -/

/-- An ALERT due on an UP port goes out with the number of records queued (R136). -/
theorem State.alertDue_up (s : State) (h : s.linkI.state = .up) :
    s.alertDue =
      { s with
        notices := { s.notices with alertArmed := false },
        linkI :=
          { s.linkI with lane := s.linkI.lane ++ [(alertPacket (s.manager 0).tag s.notices.records.length).wire] } } := by
  simp [State.alertDue, h, State.handI, State.manager]

/-- An ALERT due on another port is made pending (R136). -/
theorem State.alertDue_notUp (s : State) (h : s.linkI.state ≠ .up) :
    s.alertDue = { s with notices := { s.notices with alertArmed := false, alertPending := true } } := by
  simp [State.alertDue, h]

/-- What an ALERT due leaves of the Notice Queue and the port, and that it leaves everything else. -/
structure NoticeFrame (s t : State) : Prop where
  rest : { t with notices := s.notices, linkI := s.linkI } = s
  link : t.linkI.state = s.linkI.state
  resend : t.linkI.resend = s.linkI.resend

theorem NoticeFrame.refl (s : State) : NoticeFrame s s := ⟨rfl, rfl, rfl⟩

theorem State.alertDue_frame (s : State) : NoticeFrame s s.alertDue := by
  by_cases h : s.linkI.state = .up
  · rw [s.alertDue_up h]; exact ⟨rfl, rfl, rfl⟩
  · rw [s.alertDue_notUp h]; exact ⟨rfl, rfl, rfl⟩

theorem State.alertDue_records (s : State) : s.alertDue.notices.records = s.notices.records := by
  by_cases h : s.linkI.state = .up
  · rw [s.alertDue_up h]
  · rw [s.alertDue_notUp h]

theorem State.enterNotice_frame (s : State) (b : NoticeBody) : NoticeFrame s (s.enterNotice b) := by
  unfold State.enterNotice
  dsimp only
  split
  · have f := State.alertDue_frame { s with notices := { s.notices with records := s.notices.records ++ [⟨b, s.stamp⟩] } }
    refine ⟨?_, f.link, f.resend⟩
    exact congrArg (fun x : State => { x with notices := s.notices }) f.rest
  · exact ⟨rfl, rfl, rfl⟩

/-- An entered record stands at the tail (R131). -/
theorem State.enterNotice_records (s : State) (b : NoticeBody) :
    (s.enterNotice b).notices.records = s.notices.records ++ [⟨b, s.stamp⟩] := by
  unfold State.enterNotice
  dsimp only
  split
  · rw [State.alertDue_records]
  · rfl

theorem State.plainNotice_frame (s : State) (b : NoticeBody) : NoticeFrame s (s.plainNotice b) := by
  unfold State.plainNotice
  split
  · split
    · exact s.enterNotice_frame b
    · exact ⟨rfl, rfl, rfl⟩
  · exact NoticeFrame.refl s

/-- A frame says of each field but two that it is unchanged. -/
theorem NoticeFrame.fields {s t : State} (f : NoticeFrame s t) :
    t.pins = s.pins ∧ t.clock = s.clock ∧ t.creditsI = s.creditsI ∧ t.linkT = s.linkT ∧ t.creditsT = s.creditsT ∧
    t.tagMap = s.tagMap ∧ t.defaultPacer = s.defaultPacer ∧ t.queues = s.queues ∧ t.pacers = s.pacers ∧
    t.calendar = s.calendar ∧ t.outstanding = s.outstanding ∧ t.responses = s.responses ∧ t.replies = s.replies ∧
    t.mgmtQueue = s.mgmtQueue ∧ t.agent = s.agent ∧ t.sweeper = s.sweeper ∧ t.draws = s.draws ∧
    t.pending = s.pending := by
  have h := f.rest
  rw [← h]
  simp

/-- The withdrawal of a pending crossing (R132, R133). -/
theorem State.removeCrossing_eq (s : State) (p : PacerId) :
    s.removeCrossing p =
      { s.setPacer p { s.pacer p with crossPending := false } with
        notices :=
          { s.notices with records := s.notices.records.filter (fun r => r.body.crossingOf != some p) } } := rfl

/-- What a crossing, or the crossing check, of a pacer changes: its SLOW and CROSS_PENDING, the Notice Queue and the lane of
Link port I. -/
structure CrossingFrame (p : PacerId) (s t : State) : Prop where
  rest : { t with notices := s.notices, linkI := s.linkI, pacers := s.pacers } = s
  others : ∀ q, q ≠ p → t.pacer q = s.pacer q
  own : ∃ slow pending, t.pacer p = { s.pacer p with slow := slow, crossPending := pending }
  link : t.linkI.state = s.linkI.state
  resend : t.linkI.resend = s.linkI.resend

theorem CrossingFrame.refl (p : PacerId) (s : State) : CrossingFrame p s s :=
  ⟨rfl, fun _ _ => rfl, ⟨_, _, rfl⟩, rfl, rfl⟩

theorem crossing_frame (p : PacerId) (b : NoticeBody) (s : State) : CrossingFrame p s (crossing p b s) := by
  unfold crossing
  split
  · split
    · rw [State.removeCrossing_eq]
      exact ⟨rfl, fun q hq => s.setPacer_pacer_ne hq _, ⟨_, _, s.setPacer_pacer_self p _⟩, rfl, rfl⟩
    · split
      · have f := s.enterNotice_frame b
        have g := f.fields
        have hp : ∀ q, (s.enterNotice b).pacer q = s.pacer q := fun q => by simp [State.pacer, g]
        refine ⟨?_, fun q hq => ?_, ⟨(s.pacer p).slow, true, ?_⟩, f.link, f.resend⟩
        · exact congrArg (fun x : State => { x with pacers := s.pacers }) f.rest
        · simp [State.setPacer_pacer_ne _ hq, hp]
        · simp [hp]
      · exact ⟨rfl, fun _ _ => rfl, ⟨_, _, rfl⟩, rfl, rfl⟩
  · exact CrossingFrame.refl p s

/-- A crossing frame after a change of the same pacer's SLOW. -/
theorem CrossingFrame.ofSlow {p : PacerId} {s t : State} {x : Bool}
    (f : CrossingFrame p (s.setPacer p { s.pacer p with slow := x }) t) : CrossingFrame p s t := by
  refine ⟨?_, fun q hq => ?_, ?_, f.link, f.resend⟩
  · exact congrArg (fun y : State => { y with pacers := s.pacers }) f.rest
  · rw [f.others q hq, State.setPacer_pacer_ne _ hq]
  · obtain ⟨a, b, h⟩ := f.own
    exact ⟨a, b, by simpa using h⟩

theorem crossingCheck_frame (p : PacerId) (s : State) : CrossingFrame p s (crossingCheck p s) := by
  unfold crossingCheck
  split
  · exact (crossing_frame p _ _).ofSlow
  · exact (crossing_frame p _ _).ofSlow
  · exact CrossingFrame.refl p s

/-! ### The clock (R44, R95) -/

/-- The passing of `n` units adds `n` units to the device time in units of 4 ns, and leaves less than a microsecond of them
uncounted (R95). -/
theorem Clock.pass_units (c : Clock) (n : Nat) :
    250 * (c.pass n).deviceTime + (c.pass n).unitsPast = 250 * c.deviceTime + c.unitsPast + n ∧ (c.pass n).unitsPast < 250 := by
  have e (d u : Nat) : 250 * (d + (u + n) / 250) + (u + n) % 250 = 250 * d + u + n := by omega
  exact ⟨e c.deviceTime c.unitsPast, Nat.mod_lt _ (by decide)⟩

/-- The reference clock runs on within the pacing tick, to the next microsecond, or the tick ends (R44). -/
theorem Clock.run_cases (c : Clock) (tickLen : BitVec 16) :
    (250 - c.unitsPast < c.tickLeft ∧
        c.run tickLen = { c.pass (250 - c.unitsPast) with tickPast := c.tickPast + (250 - c.unitsPast) }) ∨
      (c.tickLeft ≤ 250 - c.unitsPast ∧ c.run tickLen = c.tick tickLen) := by
  by_cases h : 250 - c.unitsPast < c.tickLeft
  · exact Or.inl ⟨h, if_pos h⟩
  · exact Or.inr ⟨Nat.le_of_not_lt h, if_neg h⟩

/-! ### Adaptation (chapter 02) -/

/-- What adaptation of a pacer changes: its SPACING, window, DEMAND, SLOW and CROSS_PENDING, the Notice Queue and the lane of
Link port I. -/
structure AdaptFrame (p : PacerId) (s t : State) : Prop where
  rest : { t with notices := s.notices, linkI := s.linkI, pacers := s.pacers } = s
  others : ∀ q, q ≠ p → t.pacer q = s.pacer q
  own : ∃ spacing count marks demand slow pending,
    t.pacer p =
      { s.pacer p with
        spacing := spacing, winCount := count, winMarks := marks, demand := demand, slow := slow,
        crossPending := pending }
  link : t.linkI.state = s.linkI.state
  resend : t.linkI.resend = s.linkI.resend

theorem AdaptFrame.refl (p : PacerId) (s : State) : AdaptFrame p s s :=
  ⟨rfl, fun _ _ => rfl, ⟨_, _, _, _, _, _, rfl⟩, rfl, rfl⟩

/-- A change of the pacer's SPACING, window and DEMAND. -/
theorem AdaptFrame.ofSet (p : PacerId) (s : State) (c : Pacer)
    (h : ∃ spacing count marks demand,
      c = { s.pacer p with spacing := spacing, winCount := count, winMarks := marks, demand := demand }) :
    AdaptFrame p s (s.setPacer p c) := by
  obtain ⟨a, b, d, e, rfl⟩ := h
  exact ⟨rfl, fun q hq => s.setPacer_pacer_ne hq _, ⟨a, b, d, e, _, _, s.setPacer_pacer_self p _⟩, rfl, rfl⟩

/-- The crossing check after it. -/
theorem AdaptFrame.check {p : PacerId} {s t : State} (f : AdaptFrame p s t) : AdaptFrame p s (crossingCheck p t) := by
  have g := crossingCheck_frame p t
  refine ⟨?_, fun q hq => (g.others q hq).trans (f.others q hq), ?_, g.link.trans f.link, g.resend.trans f.resend⟩
  · have h := congrArg (fun x : State => { x with notices := s.notices, linkI := s.linkI, pacers := s.pacers }) g.rest
    have hf := f.rest
    simp only at h hf
    rw [hf] at h
    exact h
  · obtain ⟨a, b, d, e, _, _, hf⟩ := f.own
    obtain ⟨x, y, hg⟩ := g.own
    exact ⟨a, b, d, e, x, y, by rw [hg, hf]⟩

theorem windowVerdict_spacing (c : Pacer) : ∃ x, windowVerdict c = { c with spacing := x } := by
  unfold windowVerdict
  split
  · exact ⟨_, rfl⟩
  · split
    · exact ⟨_, rfl⟩
    · exact ⟨_, rfl⟩

theorem windowResponse_frame (p : PacerId) (marked : Bool) (s : State) :
    AdaptFrame p s (windowResponse p marked s) := by
  unfold windowResponse
  dsimp only
  split
  · obtain ⟨x, hx⟩ := windowVerdict_spacing (tally marked (s.pacer p))
    exact (AdaptFrame.ofSet p s _ ⟨x, 0, 0, false, by rw [hx]; rfl⟩).check
  · exact AdaptFrame.ofSet p s _ ⟨_, _, _, _, rfl⟩

theorem countedResponse_frame (p : PacerId) (m : Pressure) (s : State) : AdaptFrame p s (countedResponse p m s) := by
  unfold countedResponse
  split
  · cases m
    · exact windowResponse_frame p false s
    · exact windowResponse_frame p true s
    · exact (AdaptFrame.ofSet p s _ ⟨_, _, _, _, rfl⟩).check
    · exact (AdaptFrame.ofSet p s _ ⟨_, _, _, _, rfl⟩).check
  · exact AdaptFrame.refl p s

theorem timeoutHalt_frame (p : PacerId) (s : State) : AdaptFrame p s (timeoutHalt p s) := by
  unfold timeoutHalt
  split
  · exact (AdaptFrame.ofSet p s _ ⟨_, _, _, _, rfl⟩).check
  · exact AdaptFrame.refl p s

theorem idleRule_frame (p : PacerId) (s : State) : AdaptFrame p s (idleRule p s) := by
  unfold idleRule
  split
  · exact (AdaptFrame.ofSet p s _ ⟨_, _, _, _, rfl⟩).check
  · exact AdaptFrame.refl p s

/-- A clamped spacing stands between the bounds, when these are in order (R10, R11, R19). -/
theorem clampSpacing_between (c : PacerConfig) (v : BitVec 16) (h : c.spaceMin.toNat ≤ c.spaceMax.toNat) :
    c.spaceMin.toNat ≤ (clampSpacing c v).toNat ∧ (clampSpacing c v).toNat ≤ c.spaceMax.toNat := by
  unfold clampSpacing
  split
  · omega
  · split <;> omega

/-! ### The calendar (R46, R47) -/

@[simp] theorem mem_insertPacer (p q : PacerId) (l : List PacerId) : q ∈ insertPacer p l ↔ q = p ∨ q ∈ l := by
  induction l with
  | nil => simp [insertPacer]
  | cons r rest ih =>
    unfold insertPacer
    split
    · simp
    · split
      · rename_i h; subst h; simp
      · simp only [List.mem_cons, ih]; tauto

/-- Joining keeps the calendar in increasing number. -/
theorem insertPacer_sorted (p : PacerId) {l : List PacerId} (h : l.Pairwise (· < ·)) :
    (insertPacer p l).Pairwise (· < ·) := by
  induction l with
  | nil => simp [insertPacer]
  | cons r rest ih =>
    obtain ⟨hr, hrest⟩ := List.pairwise_cons.mp h
    unfold insertPacer
    split
    · rename_i hp
      refine List.pairwise_cons.mpr ⟨fun a ha => ?_, h⟩
      rcases List.mem_cons.mp ha with rfl | ha
      · exact hp
      · exact lt_trans hp (hr a ha)
    · rename_i hp
      split
      · exact h
      · rename_i hne
        refine List.pairwise_cons.mpr ⟨fun a ha => ?_, ih hrest⟩
        rcases (mem_insertPacer p a rest).mp ha with rfl | ha
        · exact lt_of_le_of_ne (not_lt.mp hp) (fun e => hne e.symm)
        · exact hr a ha

/-- Leaving keeps it too. -/
theorem leaveCalendar_sorted (p : PacerId) {s : State} (h : s.calendar.Pairwise (· < ·)) :
    (leaveCalendar p s).calendar.Pairwise (· < ·) := h.filter _

theorem mem_leaveCalendar (p q : PacerId) (s : State) : q ∈ (leaveCalendar p s).calendar ↔ q ∈ s.calendar ∧ q ≠ p := by
  simp

/-! ### The Sweeper and the drain (R15, R88) -/

/-- The Sweeper's taking of the head moves it from the queue to the cursor. -/
@[simp] theorem sweepList_startSweep (s : State) : sweepList (startSweep s) = sweepList s := by
  unfold startSweep
  split <;> simp_all [sweepList]

/-- Only the Sweeper changes. -/
theorem startSweep_frame (s : State) : { startSweep s with sweeper := s.sweeper } = s := by
  unfold startSweep
  split <;> rfl

/-- A completed drain adds the pacer to those whose sweep waits or is in hand (R15, R88). -/
theorem sweepList_drainCheck (p : PacerId) (s : State) :
    sweepList (drainCheck p s) = sweepList s ++ (if drained (s.pacer p) then [p] else []) := by
  unfold drainCheck
  split
  · simp only [sweepList_startSweep]
    unfold sweepList
    simp only [State.modPacer_eq, State.setPacer_sweeper]
    cases s.sweeper.cursor <;> simp
  · simp

/-- Only the Sweeper and the pacer table change. -/
theorem drainCheck_frame (p : PacerId) (s : State) :
    { drainCheck p s with sweeper := s.sweeper, pacers := s.pacers } = s := by
  unfold drainCheck
  split
  · exact congrArg (fun x : State => { x with sweeper := s.sweeper, pacers := s.pacers })
      (startSweep_frame { s.modPacer p (fun c => { c with state := .sweeping, retireMode := none }) with
        sweeper := { s.sweeper with queue := s.sweeper.queue ++ [p] } })
  · rfl

/-- The pacers after the drain completion check. -/
theorem drainCheck_pacer (p q : PacerId) (s : State) :
    (drainCheck p s).pacer q =
      if q = p ∧ drained (s.pacer p) = true then { s.pacer p with state := .sweeping, retireMode := none }
      else s.pacer q := by
  unfold drainCheck
  split
  · rename_i hd
    have h : ∀ x : State, (startSweep x).pacers = x.pacers := fun x => by
      have f := congrArg State.pacers (startSweep_frame x)
      exact f
    simp only [State.pacer, h]
    simp only [State.pacer] at hd
    simp [hd, State.pacer, tableGet_tableSet]
  · rename_i hd
    simp [hd]

/-! ### Slots (R65, R67) -/

/-- The head leaves: QLEN falls and its slot returns one credit (R65, R67). -/
theorem removeHead_cons (p : PacerId) (s : State) (h : HoldSlot) (rest : List HoldSlot) (hq : s.queue p = h :: rest) :
    removeHead p s =
      { s with
        queues := tableSet s.queues p rest,
        pacers := tableSet s.pacers p { s.pacer p with qlen := (s.pacer p).qlen - 1 },
        creditsI := creditsAfterSlots s 1 } := by
  simp [removeHead, hq, State.setPacer, State.setQueue, creditsAfterSlots, State.pacer]

theorem removeHead_nil (p : PacerId) (s : State) (hq : s.queue p = []) : removeHead p s = s := by
  simp [removeHead, hq]

/-- What DISCARD processing along a queue leaves unchanged (R69). -/
structure DiscardFrame (p : PacerId) (s t : State) : Prop where
  rest :
    { t with
      queues := s.queues, pacers := s.pacers, creditsI := s.creditsI, agent := s.agent, replies := s.replies } = s
  others : ∀ q, q ≠ p → t.pacer q = s.pacer q ∧ t.queue q = s.queue q
  own : ∃ n, t.pacer p = { s.pacer p with qlen := n }
  agent : ∃ v, t.agent = { s.agent with counters := v }

theorem DiscardFrame.refl (p : PacerId) (s : State) : DiscardFrame p s s :=
  ⟨rfl, fun _ _ => ⟨rfl, rfl⟩, ⟨_, rfl⟩, ⟨_, rfl⟩⟩

theorem DiscardFrame.trans {p : PacerId} {s t u : State} (f : DiscardFrame p s t) (g : DiscardFrame p t u) :
    DiscardFrame p s u := by
  refine ⟨?_, fun q hq => ⟨(g.others q hq).1.trans (f.others q hq).1, (g.others q hq).2.trans (f.others q hq).2⟩, ?_, ?_⟩
  · have h := congrArg
      (fun x : State =>
        { x with
          queues := s.queues, pacers := s.pacers, creditsI := s.creditsI, agent := s.agent, replies := s.replies })
      g.rest
    have hf := f.rest
    simp only at h hf
    rw [hf] at h
    exact h
  · obtain ⟨n, hn⟩ := f.own
    obtain ⟨m, hm⟩ := g.own
    exact ⟨m, by rw [hm, hn]⟩
  · obtain ⟨v, hv⟩ := f.agent
    obtain ⟨w, hw⟩ := g.agent
    exact ⟨w, by rw [hw, hv]⟩

theorem dropPosted_frame (p : PacerId) (s : State) : DiscardFrame p s ((removeHead p s).bump .postedDrops) := by
  cases hq : s.queue p with
  | nil =>
    rw [removeHead_nil p s hq]
    exact ⟨rfl, fun _ _ => ⟨rfl, rfl⟩, ⟨_, rfl⟩, ⟨_, rfl⟩⟩
  | cons h rest =>
    rw [removeHead_cons p s h rest hq]
    refine ⟨rfl, fun q hq => ⟨?_, ?_⟩, ⟨(s.pacer p).qlen - 1, ?_⟩, ⟨_, rfl⟩⟩
    · exact tableGet_tableSet_ne _ hq _
    · exact tableGet_tableSet_ne _ hq _
    · exact tableGet_tableSet_self _ _ _

theorem discardFrom_frame (p : PacerId) (l : List HoldSlot) (s : State) : DiscardFrame p s (discardFrom p l s) := by
  induction l generalizing s with
  | nil => exact DiscardFrame.refl p s
  | cons h rest ih =>
    unfold discardFrom
    split
    · exact (dropPosted_frame p s).trans (ih _)
    · split
      · exact DiscardFrame.refl p s
      · exact ⟨rfl, fun q hq => ⟨rfl, tableGet_tableSet_ne _ hq _⟩, ⟨_, rfl⟩, ⟨_, rfl⟩⟩

/-! ### Arrivals (R82, R163, R166) -/

theorem soundKind_framed {pkt : Packet} (h : pkt.framed = true) : soundKind pkt true = pkt.kind? := by
  simp [soundKind, h]

/-- A sound request is one of the three request kinds. -/
theorem isRequestOf_kind {pkt : Packet} {cls : BitVec 2} (h : pkt.isRequestOf cls = true) :
    (pkt.kind? = some .read ∨ pkt.kind? = some .write ∨ pkt.kind? = some .writeP) ∧ pkt.header.cls = cls ∧
      pkt.framed = true := by
  simp only [Packet.isRequestOf, Bool.and_eq_true, beq_iff_eq] at h
  obtain ⟨⟨hk, hc⟩, hf⟩ := h
  refine ⟨?_, hc, hf⟩
  cases hx : pkt.kind? with
  | none => rw [hx] at hk; simp at hk
  | some k => rw [hx] at hk; cases k <;> simp_all [PacketKind.isRequest]

/-- A sound response is one of the two response kinds. -/
theorem isResponse_kind {pkt : Packet} (h : pkt.isResponse = true) :
    (pkt.kind? = some .readData ∨ pkt.kind? = some .writeDone) ∧ pkt.framed = true := by
  simp only [Packet.isResponse, Bool.and_eq_true] at h
  obtain ⟨hk, hf⟩ := h
  refine ⟨?_, hf⟩
  cases hx : pkt.kind? with
  | none => rw [hx] at hk; simp at hk
  | some k => rw [hx] at hk; cases k <;> simp_all [PacketKind.isResponse]

/-- A traffic request that arrives under its credit goes to the Intake (R82, R163). -/
theorem arrive_traffic {pkt : Packet} {s : State} (hl : s.linkI.state = .up) (hc : 0 < s.creditsI.givenTraffic)
    (hp : pkt.isRequestOf classTraffic = true) :
    arrive .i pkt true s =
      intake pkt { s with creditsI := { s.creditsI with givenTraffic := s.creditsI.givenTraffic - 1 } } := by
  obtain ⟨hk, hcls, hf⟩ := isRequestOf_kind hp
  have hne : s.creditsI.givenTraffic ≠ 0 := by omega
  rcases hk with hk | hk | hk <;>
    simp [arrive, State.link, hl, soundKind_framed hf, hk, faultyInUp, requestFaulty, hcls, hne, handleInUp,
      takeRequestPacket, takeTraffic]

/-- A management request that arrives under its credit joins the Management Queue (R142, R163). -/
theorem arrive_mgmt {pkt : Packet} {s : State} (hl : s.linkI.state = .up) (hc : 0 < s.creditsI.givenMgmt)
    (hp : pkt.isRequestOf classMgmt = true) :
    arrive .i pkt true s =
      mgmtJoin pkt { s with creditsI := { s.creditsI with givenMgmt := s.creditsI.givenMgmt - 1 } } := by
  obtain ⟨hk, hcls, hf⟩ := isRequestOf_kind hp
  have hne : s.creditsI.givenMgmt ≠ 0 := by omega
  have hct : classMgmt ≠ classTraffic := by decide
  rcases hk with hk | hk | hk <;>
    simp [arrive, State.link, hl, soundKind_framed hf, hk, faultyInUp, requestFaulty, hcls, hct, hne, handleInUp,
      takeRequestPacket, takeMgmt]

/-- A response that arrives under its credit goes to the Outstanding Table (R97, R163). -/
theorem arrive_response {pkt : Packet} {s : State} (hl : s.linkT.state = .up) (hc : 0 < s.creditsT.givenResp)
    (hp : pkt.isResponse = true) :
    arrive .t pkt true s =
      takeResponse pkt { s with creditsT := { s.creditsT with givenResp := s.creditsT.givenResp - 1 } } := by
  obtain ⟨hk, hf⟩ := isResponse_kind hp
  have hne : s.creditsT.givenResp ≠ 0 := by omega
  rcases hk with hk | hk <;>
    simp [arrive, State.link, hl, soundKind_framed hf, hk, faultyInUp, responseFaulty, hne, handleInUp,
      takeTargetResponse]

/-! ### Management requests (R143, R145) -/

/-- A READY agent with nothing waiting takes a READ or WRITE as it joins (R143). -/
theorem mgmtJoin_ready {pkt : Packet} {s : State} (hr : s.agent.state = .ready) (hq : s.mgmtQueue = [])
    (hp : isPosted pkt = false) : mgmtJoin pkt s = takeRequest pkt { s with mgmtQueue := [pkt] } := by
  simp [mgmtJoin, agentLook, hr, hq, agentRun, hp]

/-- An ANSWERING agent lets it wait (R143). -/
theorem mgmtJoin_answering {pkt : Packet} {s : State} (hr : s.agent.state = .answering) :
    mgmtJoin pkt s = { s with mgmtQueue := s.mgmtQueue ++ [pkt] } := by
  simp [mgmtJoin, agentLook, hr]

theorem writeRequest_isRequestOf (s : State) (src : Sender) (w : WindowWord) (v : MgmtWord) :
    (writeRequest s src w v).isRequestOf classMgmt = true := rfl

theorem readRequest_isRequestOf (s : State) (src : Sender) (w : WindowWord) :
    (readRequest s src w).isRequestOf classMgmt = true := rfl

@[simp] theorem writeRequest_isPosted (s : State) (src : Sender) (w : WindowWord) (v : MgmtWord) :
    isPosted (writeRequest s src w v) = false := rfl

@[simp] theorem readRequest_isPosted (s : State) (src : Sender) (w : WindowWord) :
    isPosted (readRequest s src w) = false := rfl

@[simp] theorem writeRequest_isRead (s : State) (src : Sender) (w : WindowWord) (v : MgmtWord) :
    isRead (writeRequest s src w v) = false := rfl

@[simp] theorem readRequest_isRead (s : State) (src : Sender) (w : WindowWord) :
    isRead (readRequest s src w) = true := rfl

/-- The word a WRITE request carries is the one put in it (R141). -/
@[simp] theorem writtenWord_writeRequest (s : State) (src : Sender) (w : WindowWord) (v : MgmtWord) :
    writtenWord (writeRequest s src w v) = v := by
  show (v.setWidth 256).setWidth 64 = v
  apply BitVec.eq_of_toNat_eq
  have := v.isLt
  simp only [BitVec.toNat_setWidth]
  omega

/-- A word's offset is a multiple of 8 within the window (section 12.3). -/
theorem WindowWord.offset_lt (w : WindowWord) : w.offset < 0x10000 ∧ w.offset % 8 = 0 := by
  cases w with
  | tagMap t => have := t.isLt; simp only [WindowWord.offset]; omega
  | _ => first | decide | (simp only [WindowWord.offset]; omega)

theorem windowBase_lt (b : BitVec 4) : windowBase b + 0x10000 ≤ 2 ^ 48 := by
  have := b.isLt
  simp only [windowBase]
  omega

/-- The address of a word, as a number (R141). -/
theorem wordAddress_toNat (s : State) (w : WindowWord) :
    (wordAddress s w).toNat = windowBase s.pins.wbase + w.offset := by
  have h1 := w.offset_lt.1
  have h2 := windowBase_lt s.pins.wbase
  simp only [wordAddress, BitVec.toNat_ofNat]
  exact Nat.mod_eq_of_lt (by omega)

end Sys2Proof.Machine
end

