-- ==== Sys2Proof/Tests/Slice0.lean ====
section
/-!
SUPPORT. Tests: ill-formed commands that WellFormed refuses, worked examples of spec/ one event at a time, and for each
statement with hypotheses a state and operands that meet them, clause by clause.
-/

namespace Sys2Proof.Tests

open Sys2Proof.Machine

set_option Elab.async false

/-! ### Small states -/

/-- The state that an answer leaves; the given one where the answer is no next state. -/
def after (o : Host.Outcome State Fault Refusal) (s : State) : State :=
  match o with
  | .next t => t
  | .fault _ => s
  | .refused _ => s

/-- The state after one command. -/
def run (c : Instr) (s : State) : State := after (exec c s) s

/-- A legal configuration, the one of section 2.2's example in its spacing fields. -/
def cfg : PacerConfig :=
  { spaceMin := 50, spaceMax := 2000, spaceStart := 300, upShift := 2, downShift := 0, window := 4, markLimit := 2,
    slowAt := 1000, slowBand := 200, idleLimit := 0, drainSpace := 0, priority := 1, flightCap := 2, queueLimit := 2 }

/-- A pacer in this state with that configuration. -/
def pacerIn (x : PacerState) : Pacer := { powerOnPacer with cfg := cfg, state := x, spacing := 300 }

/-- The part with both links UP at pacing time 1000, window base 3 and primary manager 5. -/
def base : State :=
  { powerOn true 3 5 with
    clock := { pacingTime := 1000, deviceTime := 100, unitsPast := 0, tickSpan := 25, tickPast := 0 },
    linkI := { state := .up, resend := none, lane := [] },
    creditsI := { givenTraffic := 256, givenMgmt := 4, returnTraffic := 0, returnMgmt := 0, heldResp := 8, grantResp := 8 },
    linkT := { state := .up, resend := none, lane := [] },
    creditsT := { givenResp := 24, returnResp := 0, heldReq := 2, grantReq := 8 } }

/-- A request of a kind and class, with no data beat. -/
def request (k : PacketKind) (cls : BitVec 2) (tag : Tag) (beatsM1 : BitVec 4) (address : BitVec 48) : Packet :=
  { header := { Header.blank k with cls := cls, tag := tag, txid := 9, beatsM1 := beatsM1, address := address },
    data := if k.carriesData then List.replicate (beatsM1.toNat + 1) 0 else [] }

/-- A response of a kind. -/
def response (k : PacketKind) (tag : Tag) (txid : Txid) (beatsM1 : BitVec 4) (pressure : BitVec 2) : Packet :=
  { header := { Header.blank k with tag := tag, txid := txid, beatsM1 := beatsM1, pressure := pressure },
    data := if k.carriesData then List.replicate (beatsM1.toNat + 1) 0 else [] }

/-- A traffic READ of one beat from tag 7. -/
def aRead : Packet := request .read classTraffic 7 0 0x1000

/-- A traffic WRITE_P of one beat from tag 7. -/
def aWriteP : Packet := request .writeP classTraffic 7 0 0x1000

/-- A slot of a queue. -/
def slot (p : Packet) : HoldSlot := { request := p, aborting := false }

/-- Pacer `p` with these requests queued, its QLEN right, on the calendar. -/
def queued (p : PacerId) (l : List Packet) (c : Pacer) (s : State) : State :=
  joinCalendar p ((s.setQueue p (l.map slot)).setPacer p { c with qlen := l.length })

/-- Pacer 3 LIVE, tag 7 bound to it. -/
def live : State := (base.setPacer 3 (pacerIn .live)).setBinding 7 (some 3)

/-- A BUSY entry of pacer 3. -/
def busyEntry : Entry :=
  { state := .busy, pacer := 3, tag := 60, upTxid := 9, kind := .read, beats := 2, deadline := some 100, orphan := false,
    closeCause := none, quarantineOnClose := false, quarantineEnd := none }

/-- The primary manager. -/
def manager : Sender := { tag := 5, txid := 1 }

/-! ### Ill-formed commands are refused -/

theorem test_wf_traffic_of_class_mgmt : WellFormed (.trafficArrival (request .read classMgmt 7 0 0)) = false := by
  decide +kernel

theorem test_wf_traffic_of_response_kind :
    WellFormed (.trafficArrival (response .readData 7 0 0 0)) = false ∧
      WellFormed (.trafficArrival { aRead with header := { aRead.header with kind := 0 } }) = false := by
  decide +kernel

theorem test_wf_traffic_misframed :
    WellFormed (.trafficArrival { aRead with data := [0] }) = false ∧
      WellFormed (.trafficArrival { aWriteP with data := [] }) = false ∧ WellFormed (.trafficArrival aRead) = true := by
  decide +kernel

theorem test_wf_mgmt_of_class_traffic : WellFormed (.mgmtArrival aRead) = false := by decide +kernel

theorem test_wf_response_of_request_kind : WellFormed (.targetResponse aRead) = false := by decide +kernel

theorem test_wf_response_misframed :
    WellFormed (.targetResponse { response .readData 7 0 1 0 with data := [0] }) = false ∧
      WellFormed (.targetResponse (response .readData 7 0 1 0)) = true := by
  decide +kernel

theorem test_wf_fault_beats : WellFormed (.fault .i 0 (List.replicate 17 0) 0) = false := by decide +kernel

theorem test_wf_bad_command :
    WellFormed (.badCommand manager 8 0 0) = false ∧ WellFormed (.badCommand manager 9 0 0) = true := by decide +kernel

theorem test_wf_mgmt_write_kind :
    WellFormed (.mgmtWrite (request .read classMgmt 5 0 0)) = false ∧
      WellFormed (.mgmtWriteP (request .write classMgmt 5 0 0)) = false := by
  decide +kernel

/-- No row of the table gives bits. -/
theorem test_no_word_spells_a_command : decodeTableWord 32 0xFFFFFFFF = none := rfl

/-! ### Worked examples -/

/-- Section 2.2: 2000, 1500, 1125, 844, 633, 475, 357 at UP_SHIFT 2. -/
theorem test_increase_ladder :
    (List.range 7).map (fun n => ((increaseStep^[n] { pacerIn .live with spacing := 2000 }).spacing.toNat)) =
      [2000, 1500, 1125, 844, 633, 475, 357] := by
  decide +kernel

/-- Section 2.2: 300, 600, 1200, 2000 at DOWN_SHIFT 0. -/
theorem test_decrease_ladder :
    (List.range 4).map (fun n => ((decreaseStep^[n] (pacerIn .live)).spacing.toNat)) = [300, 600, 1200, 2000] := by
  decide +kernel

/-- R42: SPACING 400, UP_SHIFT 3, DOWN_SHIFT 1, seven CLEAR responses of a window of 8 with DEMAND. -/
def r42 : State :=
  base.setPacer 3
    { pacerIn .live with
      cfg := { cfg with upShift := 3, downShift := 1, window := 8, slowAt := 0, slowBand := 0 }, spacing := 400,
      winCount := 7, demand := true }

theorem test_clear_then_heavy :
    let c := (countedResponse 3 .heavy (countedResponse 3 .clear r42)).pacer 3
    c.spacing = 525 ∧ c.winCount = 0 := by
  decide +kernel

theorem test_heavy_then_clear :
    let c := (countedResponse 3 .clear (countedResponse 3 .heavy r42)).pacer 3
    c.spacing = 600 ∧ c.winCount = 1 := by
  decide +kernel

/-- Section 3.6 at pacing time 1300: pacers 4 and 5 at DUE 1010, pacer 6 at 1005, two credits. -/
def stall : State :=
  let at_ (sp : BitVec 16) (pr : BitVec 2) (due : PacingTime) : Pacer :=
    { pacerIn .live with
      cfg := { cfg with spaceMin := 1, spaceStart := 10, priority := pr, flightCap := 16 }, spacing := sp, due := due }
  queued 6 [aRead, aRead] (at_ 40 0 1005)
    (queued 5 [aRead, aRead] (at_ 10 2 1010)
      (queued 4 [aRead, aRead] (at_ 10 1 1010) { base with clock := { base.clock with pacingTime := 1300 } }))

/-- Pacer 6 goes first, from its basis 1005; pacer 5 next, having lost the time, from 1300. -/
theorem test_stall_departures :
    let one := run .departure stall
    let two := run .departure one
    (one.pacer 6).due = 1045 ∧ one.creditsT.heldReq = 1 ∧ (two.pacer 5).due = 1310 ∧ (two.pacer 4).due = 1010 := by
  decide +kernel

/-- Section 3.7: every entry BUSY, pacer 2's READ at DUE 500 passed over for pacer 7's 4-beat WRITE_P at DUE 520. -/
theorem test_read_passed_over :
    let s : State :=
      { base with
        clock := { base.clock with pacingTime := 530 }, outstanding := Vector.replicate 128 busyEntry }
    let s := queued 2 [aRead] { pacerIn .live with spacing := 20, due := 500 } s
    let s := queued 7 [request .writeP classTraffic 7 3 0x1000] { pacerIn .live with spacing := 30, due := 520 } s
    let t := run .departure s
    (t.pacer 7).due = 640 ∧ (t.pacer 7).flight = 0 ∧ (t.pacer 2).due = 500 ∧ t.calendar = [2] := by
  decide +kernel

/-- Section 5.6: pacer 8 LIVE with one request of two, pacer 11 PAUSED and the default, pacer 15 DRAINING. -/
def admissions : State :=
  let s := queued 8 [aRead] (pacerIn .live) base
  let s := s.setPacer 11 { pacerIn .paused with cfg := { cfg with queueLimit := 4 } }
  let s := s.setPacer 15 { pacerIn .draining with retireMode := some .flush, flight := 1 }
  { (s.setBinding 60 (some 8)).setBinding 61 (some 15) with defaultPacer := some 11 }

/-- Arrivals a, b and c. -/
theorem test_admission_a_b_c :
    let a := run (.trafficArrival (request .read classTraffic 60 1 0x10000040)) admissions
    let b := run (.trafficArrival (request .write classTraffic 60 0 0x10000080)) a
    let c := run (.trafficArrival (request .writeP classTraffic 61 3 0x20000000)) b
    (a.pacer 8).qlen = 2 ∧ b.counter .retry = 1 ∧ (b.pacer 8).refuseCount = 1 ∧ b.replies.length = 1 ∧
      c.counter .retiring = 1 ∧ c.counter .postedDrops = 1 ∧ (c.pacer 15).refuseCount = 1 ∧
      c.creditsI.returnTraffic = 1 := by
  decide +kernel

/-- Arrivals d, e and f: the default pacer, the window's first byte reached from below, the misaligned address. -/
theorem test_admission_d_e_f :
    let d := run (.trafficArrival (request .read classTraffic 62 0 0x30000000)) admissions
    let e := run (.trafficArrival (request .read classTraffic 62 1 0xFFFFFF02FFE0)) d
    let f := run (.trafficArrival (request .read classTraffic 900 0 0x30000010)) e
    (d.pacer 11).qlen = 1 ∧ d.calendar = [8] ∧ e.counter .window = 1 ∧ (e.pacer 11).refuseCount = 0 ∧
      f.counter .malformed = 1 := by
  decide +kernel

/-- Section 6.10 before the mismatch: entry 5 of pacer 3, which is at its cap. -/
def givenUp : State :=
  (base.setPacer 3 { pacerIn .live with spacing := 450, flight := 2 }).setEntry 5 { busyEntry with deadline := some 100 }

/-- A READ_DATA of one beat does not fit the entry's two. -/
theorem test_mismatch :
    let t := run (.targetResponse (response .readData 60 5 0 0)) givenUp
    t.counter .mismatch = 1 ∧ (t.entry 5).state = .busy ∧ (t.pacer 3).flight = 2 ∧ t.creditsT.givenResp = 24 := by
  decide +kernel

/-- The expiry halts the pacer; the reply's placement starts the quarantine; the late response ends it and moves no spacing. -/
theorem test_expiry_and_late :
    let a := run (.expiry 5) givenUp
    let b := run .replyPlacement a
    let c := run (.targetResponse (response .readData 60 5 1 2)) b
    (a.entry 5).state = .closing ∧ (a.pacer 3).spacing = 2000 ∧ (a.pacer 3).flight = 1 ∧ a.counter .timeouts = 1 ∧
      (b.entry 5).quarantineEnd = some 1100 ∧ (c.entry 5).state = .free ∧ c.counter .late = 1 ∧
      (c.pacer 3).spacing = 2000 := by
  decide +kernel

/-- Section 6.10's second run: a T-port link reset gives no halt. -/
theorem test_link_lost :
    let a := run (.resetArrival .t) givenUp
    (a.entry 5).closeCause = some .linkLost ∧ (a.pacer 3).flight = 0 ∧ (a.pacer 3).spacing = 450 ∧
      a.replies = [.givenUp .linkLost 5] ∧ a.linkT.state = .initWait := by
  decide +kernel

/-- Section 12.5: the address, the written word, and the word read afterwards (pacer 12 STAGED). -/
theorem test_command_on_the_wire :
    let s := base.setPacer 12 (pacerIn .staged)
    let t := run (.cmdRetireDiscard manager 12 0) s
    wordAddress s .command = 0xFFFFFF030028 ∧ commandWord 6 12 0 = 0x0C06 ∧
      lastCommandWord t.agent.lastCommand = 0x8000000100000C06 ∧ (t.pacer 12).state = .sweeping ∧
      t.sweeper.cursor = .defaultStep 12 := by
  decide +kernel

/-- Section 5.7: the sweep of pacer 21 clears its bindings and leaves pacer 30's. -/
theorem test_sweep_visits :
    let s : State :=
      { ((base.setBinding 0 (some 21)).setBinding 1 (some 30)).setPacer 21 (pacerIn .sweeping) with
        defaultPacer := some 21, sweeper := { queue := [40], cursor := .defaultStep 21 } }
    let a := run .sweepDefaultPacerStep s
    let b := run .sweepEntryVisit (run .sweepEntryVisit a)
    let c := run .sweepEntryVisit (b.setCursor (.visit 21 1023))
    a.defaultPacer = none ∧ b.binding 0 = none ∧ b.binding 1 = some 30 ∧ (c.pacer 21).state = .vacant ∧
      c.notices.records.map Notice.body = [.retireDone 21] ∧ c.sweeper = { queue := [], cursor := .defaultStep 40 } := by
  decide +kernel

/-- R160: the bring-up grants of both ports, as bits: KIND 8, TRAFFIC_GRANT 256, MGMT_GRANT 4; KIND 8, RESP_GRANT 24. -/
theorem test_power_on_inits :
    let t := run (.powerOnReset 3 5) State.reset
    t.linkI.lane.map (fun w => w.packet.header.toBits) = [0x900#128 <<< 64 ||| 8#128] ∧
      t.linkT.lane.map (fun w => w.packet.header.toBits) = [(24#128 <<< 76) ||| 8#128] := by
  decide +kernel

/-- R160, R161: the timer of an INIT_WAIT port at 1000 µs. -/
theorem test_init_resend :
    let s := run (.powerOnReset 3 5) State.reset
    let late : State := { s with clock := { s.clock with deviceTime := 1000 } }
    (run (.initResend .i) s).linkI.lane.length = 1 ∧ (run (.initResend .i) late).linkI.lane.length = 2 ∧
      (run (.initResend .i) late).linkI.resend = some 2000 := by
  decide +kernel

/-- R45, R95: at TICK_LEN 1280 a microsecond passes inside the pacing tick, whose 5 µs + 30 units are not out. -/
theorem test_time_inside_a_long_tick :
    (idle { base with clock := { base.clock with tickSpan := 1280 } }).clock =
      { pacingTime := 1000, deviceTime := 101, unitsPast := 0, tickSpan := 1280, tickPast := 250 } := by
  decide +kernel

/-- R44: ten ticks of 25 units are one microsecond. -/
theorem test_ten_ticks_are_a_microsecond :
    ((idle^[10] base).clock.pacingTime, (idle^[10] base).clock.deviceTime, (idle^[9] base).clock.deviceTime) =
      (1010, 101, 100) := by
  decide +kernel

/-- R95: the expiry of a deadline 1 µs ahead finds it reached before the pacing tick ends. -/
theorem test_expiry_inside_a_long_tick :
    let s : State :=
      { givenUp with clock := { givenUp.clock with deviceTime := 99, tickSpan := 1280 } }
    (run (.expiry 5) s).counter .timeouts = 0 ∧ (run (.expiry 5) (idle s)).counter .timeouts = 1 ∧
      (idle s).clock.pacingTime = 1000 := by
  decide +kernel

/-! ### A state that has every law, for the statements about every step -/

/-- Pacer 3 LIVE and bound, and a pacing tick waiting. -/
def lawful : State := { live with pending := [.pacingTick] }

theorem lawful_pacer (p : PacerId) : lawful.pacer p = if p = 3 then pacerIn .live else powerOnPacer :=
  (State.setPacer_pacer base 3 p _).trans (by
    have h : base.pacer p = powerOnPacer := tableGet_replicate _ _
    rw [h])

theorem lawful_entry (n : EntryId) : lawful.entry n = powerOnEntry := tableGet_replicate _ _

theorem lawful_queue (p : PacerId) : lawful.queue p = [] := tableGet_replicate _ _

theorem lawful_binding (t : Tag) : lawful.binding t = if t = 7 then some 3 else none :=
  (State.setBinding_binding (base.setPacer 3 (pacerIn .live)) 7 t _).trans (by
    have h : (base.setPacer 3 (pacerIn .live)).binding t = none := tableGet_replicate _ _
    rw [h])

/-- What `decide` shows of both kinds of pacer, every pacer has. -/
theorem lawful_pacers (P : Pacer → Prop) (h3 : P (pacerIn .live)) (h0 : P powerOnPacer) (p : PacerId) :
    P (lawful.pacer p) := by
  rw [lawful_pacer]
  split
  · exact h3
  · exact h0

theorem lawful_steps : ∃ t, step lawful = .next t := ⟨_, rfl⟩

theorem witness_context_law : ContextLaw lawful := fun p =>
  lawful_pacers Pacer.Lawful (by constructor <;> decide +kernel) (by constructor <;> decide +kernel) p

theorem witness_adaptation_law : AdaptationLaw lawful := fun p =>
  lawful_pacers Pacer.Settled (by constructor <;> decide +kernel) (by constructor <;> decide +kernel) p

theorem witness_outstanding_law : OutstandingLaw lawful := fun n => by
  constructor <;> rw [lawful_entry]
  · decide +kernel
  · decide +kernel
  · decide +kernel
  · decide +kernel
  · decide +kernel
  · decide +kernel
  · rfl
  · exact fun _ h => nomatch h

theorem witness_agent_law : AgentLaw lawful := by
  constructor <;> decide +kernel

theorem witness_credit_law : CreditLaw lawful := by
  constructor <;> decide +kernel

theorem witness_notice_law : NoticeLaw lawful :=
  { room := by decide +kernel,
    pending := fun p =>
      lawful_pacers (fun c => crossingRecords lawful p = if c.crossPending then 1 else 0) rfl rfl p,
    quiet := fun p => lawful_pacers (fun c => adapts c = false → c.crossPending = false) (by decide +kernel)
      (by decide +kernel) p }

theorem witness_binding_law : BindingLaw lawful := by
  refine ⟨fun t p h => ?_, fun p h => (nomatch h), fun p k h => (nomatch h), fun p k t h => (nomatch h)⟩
  rw [lawful_binding] at h
  split at h
  · cases h; decide +kernel
  · cases h

theorem witness_table_law : TableLaw lawful :=
  { pacers := fun p => by
      have hq := lawful_queue p
      have hb : lawful.busyCount p = 0 := countP_replicate_of_false (by rfl)
      have hs : sweepList lawful = [] := rfl
      have hc : lawful.calendar = [] := rfl
      have hr : lawful.replies = [] := rfl
      rcases eq_or_ne p 3 with rfl | hp
      · have h3 : lawful.pacer 3 = pacerIn .live := by rw [lawful_pacer]; rfl
        constructor <;> simp only [h3, hq, hb, hs, hc, hr] <;> first | decide +kernel | trivial
      · have h0 : lawful.pacer p = powerOnPacer := by rw [lawful_pacer]; simp [hp]
        constructor <;> simp only [h0, hq, hb, hs, hc, hr] <;>
          first | decide +kernel | trivial | simp [powerOnPacer, onTerms],
    sorted := List.Pairwise.nil,
    sweepOnce := List.nodup_nil,
    sweepBusy := fun _ => rfl }

/-! ### Premises of the statements, clause by clause, at the ends of their ranges -/

/-- `n` records in the Notice Queue. -/
def withNotices (n : Nat) (s : State) : State :=
  { s with notices := { s.notices with records := List.replicate n ⟨.denied 0, 0⟩ } }

/-- Pacer 3 LIVE with this SLOW and SPACING. -/
def atSpacing (slow : Bool) (spacing : BitVec 16) : Pacer := { pacerIn .live with slow := slow, spacing := spacing }

theorem witness_increase_step_floor : (atSpacing false 50).spacing = (atSpacing false 50).cfg.spaceMin := by
  decide +kernel

theorem witness_decrease_step_ceiling : (atSpacing false 2000).spacing = (atSpacing false 2000).cfg.spaceMax := by
  decide +kernel

/-- Outside LIVE and PAUSED; inside; a window of 4 at its third and at its fourth response. -/
theorem witness_counted_response :
    adapts (pacerIn .staged) = false ∧ adapts (pacerIn .paused) = true ∧
      ({ pacerIn .live with winCount := 2 } : Pacer).winCount + 1 ≠ cfg.window.toNat ∧
      ({ pacerIn .live with winCount := 3 } : Pacer).winCount + 1 = cfg.window.toNat := by
  decide +kernel

/-- SLOW_AT 1000 and SLOW_BAND 200: the crossings at 1001 and 800, and none at 1000 and 801; and SLOW_AT 0. -/
theorem witness_crossing_check :
    legal cfg = true ∧ cfg.slowAt ≠ 0 ∧ cfg.slowAt.toNat < (atSpacing false 1001).spacing.toNat ∧
      (atSpacing false 1000).spacing.toNat ≤ cfg.slowAt.toNat ∧
      (atSpacing true 800).spacing.toNat + cfg.slowBand.toNat ≤ cfg.slowAt.toNat ∧
      cfg.slowAt.toNat < (atSpacing true 801).spacing.toNat + cfg.slowBand.toNat ∧
      legal { cfg with slowAt := 0, slowBand := 0 } = true := by
  decide +kernel

/-- A crossing of pacer 3: disabled; pending; with 31 records; with 32. -/
theorem witness_crossing :
    (NoticeBody.slow 3 1001).crossingOf = some 3 ∧ (writeEnables 0 live).noticeEnable .slow = false ∧
      live.noticeEnable .slow = true ∧
      ((live.setPacer 3 { pacerIn .live with crossPending := true }).pacer 3).crossPending = true ∧
      (live.pacer 3).crossPending = false ∧ (withNotices 31 live).notices.records.length < 32 ∧
      32 ≤ (withNotices 32 live).notices.records.length := by
  decide +kernel

/-- A notice: disabled; lost; entered quietly; entered with an ALERT on an UP port and on a DOWN one. -/
theorem witness_notice :
    (writeEnables 0 base).noticeEnable .denied = false ∧ base.noticeEnable .denied = true ∧
      32 ≤ (withNotices 32 base).notices.records.length ∧ (withNotices 31 base).notices.records.length < 32 ∧
      (withNotices 31 base).notices.records ≠ [] ∧ (writeEnables 0x7F base).agent.enables.getLsbD 7 = false ∧
      base.notices.records = [] ∧ base.agent.enables.getLsbD 7 = true ∧ base.notices.alertArmed = true ∧
      base.linkI.state = .up ∧ State.reset.agent.enables.getLsbD 7 = true ∧ State.reset.notices.alertArmed = true ∧
      State.reset.notices.records = [] ∧ State.reset.linkI.state ≠ .up := by
  decide +kernel

/-- A pacer that is not drained; one that is, with the Sweeper idle and with it busy. -/
theorem witness_drain :
    let d := base.setPacer 3 { pacerIn .draining with retireMode := some .flush }
    ¬((live.pacer 3).state = .draining ∧ (live.pacer 3).qlen = 0 ∧ (live.pacer 3).flight = 0) ∧
      (d.pacer 3).state = .draining ∧ (d.pacer 3).qlen = 0 ∧ (d.pacer 3).flight = 0 ∧ d.sweeper.queue = [] ∧
      (d.setCursor (.visit 9 0)).sweeper.cursor ≠ .idle := by
  decide +kernel

theorem witness_calendar : stall.calendar.Pairwise (· < ·) := by decide +kernel

/-- A queue of one posted write; and of a posted write before a READ. -/
theorem witness_discard :
    (base.setQueue 3 [slot aWriteP]).queue 3 = [slot aWriteP] ++ [] ∧
      (base.setQueue 3 [slot aWriteP, slot aRead]).queue 3 = [slot aWriteP] ++ [slot aRead] ∧
      (∀ x ∈ [slot aWriteP], isPosted x.request = true) ∧ isPosted (slot aRead).request = false := by
  decide +kernel

theorem witness_pacing_tick : base.pins.resetN = true ∧ State.reset.pins.resetN = false := by decide +kernel

/-- The request's range lies clear of the window. -/
theorem clear_of_window (h : Header) (hlt : h.address.toNat + 32 * h.beats ≤ windowBase 3) :
    ¬RangeMeetsWindow 3 h := fun ⟨a, _, h2, h3, _⟩ => by omega

theorem witness_traffic_admitted :
    live.linkI.state = .up ∧ 0 < live.creditsI.givenTraffic ∧ aRead.isRequestOf classTraffic = true ∧
      RangeFits aRead.header ∧ ¬RangeMeetsWindow live.pins.wbase aRead.header ∧ Names live aRead.header.tag 3 ∧
      bindable (live.pacer 3) = true ∧ (live.pacer 3).qlen < (live.pacer 3).cfg.queueLimit.toNat :=
  ⟨by decide +kernel, by decide +kernel, by decide +kernel, ⟨by decide +kernel, by decide +kernel⟩,
    clear_of_window _ (by decide +kernel), Or.inl (by decide +kernel), by decide +kernel, by decide +kernel⟩

/-- One READ and one WRITE_P for each cause: MALFORMED by its last beat past the top, WINDOW by its last byte, UNMAPPED,
RETIRING and RETRY. -/
theorem witness_traffic_refused :
    Refuses live (request .read classTraffic 7 1 0xFFFFFFFFFFE0).header .malformed none ∧
      Refuses live (request .writeP classTraffic 7 1 0xFFFFFF02FFE0).header .window none ∧
      Refuses base aRead.header .unmapped none ∧
      Refuses (live.setPacer 3 (pacerIn .sweeping)) aWriteP.header .retiring (some 3) ∧
      Refuses (live.setPacer 3 { pacerIn .live with qlen := 2 }) aRead.header .retry (some 3) ∧
      isPosted aRead = false ∧ isPosted aWriteP = true ∧ aWriteP.isRequestOf classTraffic = true :=
  ⟨⟨rfl, fun h => absurd h.2 (by decide +kernel)⟩,
    ⟨rfl, ⟨by decide +kernel, by decide +kernel⟩, ⟨0xFFFFFF030000, by decide +kernel⟩⟩,
    ⟨rfl, ⟨by decide +kernel, by decide +kernel⟩, clear_of_window _ (by decide +kernel), by decide +kernel, rfl⟩,
    ⟨3, rfl, ⟨by decide +kernel, by decide +kernel⟩, clear_of_window _ (by decide +kernel),
      Or.inl (by decide +kernel), Or.inr (by decide +kernel)⟩,
    ⟨3, rfl, ⟨by decide +kernel, by decide +kernel⟩, clear_of_window _ (by decide +kernel),
      Or.inl (by decide +kernel), by decide +kernel, by decide +kernel⟩,
    by decide +kernel, by decide +kernel, by decide +kernel⟩

/-- TXID 128 and a FREE entry are STALE, so is a CLOSING entry of another tag; QUARANTINE and CLOSING of the tag are LATE; a
BUSY entry of two beats does not fit one. -/
theorem witness_response_discarded :
    let r := response .readData 60 127 0 0
    let s (e : Entry) : State := base.setEntry 127 e
    base.linkT.state = .up ∧ 0 < base.creditsT.givenResp ∧ r.isResponse = true ∧
      128 ≤ (response .readData 60 128 0 0).header.txid.toNat ∧ (127 : EntryId).val = r.header.txid.toNat ∧
      (base.entry 127).state = .free ∧ ((s { busyEntry with state := .closing, tag := 61 }).entry 127).state = .closing ∧
      r.header.tag ≠ ((s { busyEntry with state := .closing, tag := 61 }).entry 127).tag ∧
      ((s { busyEntry with state := .quarantine }).entry 127).state = .quarantine ∧
      r.header.tag = ((s { busyEntry with state := .quarantine }).entry 127).tag ∧
      ((s { busyEntry with state := .closing }).entry 127).state = .closing ∧
      ((s busyEntry).entry 127).state = .busy := by
  decide +kernel

theorem witness_response_does_not_fit : ¬FitsEntry (response .readData 60 127 0 0) busyEntry := fun h => by
  rcases h.2 with ⟨_, _, hb⟩ | ⟨hk, _⟩
  · exact absurd hb (by decide +kernel)
  · exact absurd hk (by decide +kernel)

theorem witness_response_fits :
    FitsEntry (response .readData 60 5 1 0) busyEntry ∧
      FitsEntry (response .writeDone 60 5 0 3) { busyEntry with kind := .write, orphan := true } ∧
      (response .readData 60 5 1 0).isResponse = true ∧ (5 : EntryId).val = (5 : Txid).toNat ∧
      (givenUp.entry 5).state = .busy ∧ (givenUp.entry 5).orphan = false :=
  ⟨⟨rfl, Or.inl (by decide +kernel)⟩, ⟨rfl, Or.inr (by decide +kernel)⟩, by decide +kernel, by decide +kernel,
    by decide +kernel, by decide +kernel⟩

theorem witness_init_arrival :
    let s := run (.powerOnReset 3 5) State.reset
    s.linkI.state = .initWait ∧ s.linkT.state = .initWait ∧ (1 : BitVec 8) ≠ 0 ∧ (255 : BitVec 8) ≠ 0 := by
  decide +kernel

/-- A CREDIT up to the grant; one of count 0; one past the grant, and one of a class not granted. -/
theorem witness_credit_arrival :
    let s : State := { base with creditsI := { base.creditsI with heldResp := 7 } }
    s.linkI.state = .up ∧ s.linkT.state = .up ∧ s.creditsI.heldResp + (1 : BitVec 8).toNat ≤ s.creditsI.grantResp ∧
      s.creditsT.heldReq + (6 : BitVec 8).toNat ≤ s.creditsT.grantReq :=
  by decide +kernel

theorem witness_credit_fault :
    FaultyCredit base .i (creditPacket creditResponse 1).header ∧ FaultyCredit base .t (creditPacket creditRequest 7).header ∧
      FaultyCredit base .t (creditPacket creditTraffic 1).header :=
  ⟨⟨by decide +kernel, Or.inr (by decide +kernel)⟩, ⟨by decide +kernel, Or.inr (by decide +kernel)⟩,
    ⟨by decide +kernel, Or.inl (by decide +kernel)⟩⟩

/-- Each state of a port, for the RESET arrivals. -/
theorem witness_reset_arrival :
    base.linkI.state = .up ∧ base.linkT.state = .up ∧ (run (.powerOnReset 3 5) State.reset).linkI.state = .initWait ∧
      (run (.fault .i 0 [] 0) base).linkI.state = .fault ∧ (run (.fault .t 0 [] 0) base).linkT.state = .fault ∧
      State.reset.linkI.state = .down ∧ State.reset.linkT.state = .down := by
  decide +kernel

theorem witness_arrival_row :
    arrivalOf base (.cmdStage manager 3 0) = some (.i, writeRequest base manager .command 0x0301) ∧
      arrivalOf base (.resetArrival .t) = some (.t, resetPacket) := by
  decide +kernel

/-- A bad check word at UP, an ALERT at UP, an INIT with no grant in INIT_WAIT; and the ports that discard. -/
theorem witness_faulty_packet :
    Faulty base .i aRead (aRead.checkWord + 1) ∧ Faulty base .t (alertPacket 5 0) (alertPacket 5 0).checkWord ∧
      Faulty (run (.powerOnReset 3 5) State.reset) .t (initPacket 0 0 0 0) (initPacket 0 0 0 0).checkWord ∧ State.reset.linkI.state = .down ∧
      (run (.fault .t 0 [] 0) base).linkT.state = .fault ∧ resetPacket.kind? = some .reset :=
  ⟨Or.inr ⟨by decide +kernel, Or.inl (fun h => absurd h.1 (by simp))⟩,
    Or.inr ⟨by decide +kernel, Or.inr (Or.inr (Or.inl (by decide +kernel)))⟩,
    Or.inl ⟨by decide +kernel, Or.inr (Or.inr (by decide +kernel))⟩, by decide +kernel, by decide +kernel,
    by decide +kernel⟩

/-- A port in FAULT; a timer exactly at its expiry, and one microsecond before it. -/
theorem witness_init_sent :
    let f := run (.fault .i 0 [] 0) base
    let w := run (.powerOnReset 3 5) State.reset
    let at_ (n : Nat) : State := { w with clock := { w.clock with deviceTime := n } }
    f.linkI.state = .fault ∧ base.linkI.state ≠ .fault ∧ (at_ 1000).linkI.state = .initWait ∧
      (at_ 1000).linkI.resend = some 1000 ∧ 1000 ≤ (at_ 1000).clock.deviceTime ∧ (at_ 1000).linkT.resend = some 1000 ∧
      (at_ 999).clock.deviceTime < 1000 := by
  decide +kernel

theorem witness_credit_send :
    let s : State :=
      { base with
        creditsI := { base.creditsI with returnTraffic := 256, returnMgmt := 1 },
        creditsT := { base.creditsT with returnResp := 1 } }
    s.linkI.state = .up ∧ 0 < s.creditsI.returnTraffic ∧ 0 < s.creditsI.returnMgmt ∧ s.linkT.state = .up ∧
      0 < s.creditsT.returnResp ∧ base.creditsI.returnTraffic = 0 ∧ base.creditsT.returnResp = 0 := by
  decide +kernel

/-- Pacer 3 with one READ at DUE now, on the calendar, is the only one that may depart. -/
def departing (p : Packet) : State :=
  { base with
    queues := tableSet base.queues 3 [slot p],
    pacers := tableSet base.pacers 3 { pacerIn .live with qlen := 1, due := 1000 }, calendar := [3] }

theorem departing_wins (p : Packet) : Wins (departing p) 3 p := by
  have hq : (departing p).queue 3 = [slot p] := tableGet_tableSet_self _ _ _
  have hp : (departing p).pacer 3 = { pacerIn .live with qlen := 1, due := 1000 } := tableGet_tableSet_self _ _ _
  have hf : ((departing p).entry 0).state = .free := by
    have h : (departing p).entry 0 = powerOnEntry := tableGet_replicate _ _
    rw [h]; rfl
  refine ⟨⟨List.mem_singleton_self _, ⟨slot p, [], hq, rfl⟩, ?_, rfl, Nat.zero_lt_two, Or.inr ⟨0, hf⟩⟩, fun q r h hne => ?_⟩
  · rw [hp]; exact Nat.le_refl 1000
  · exact absurd (List.mem_singleton.mp h.1) hne

theorem witness_arbiter_wins : ∃ p req, Wins (departing aRead) p req := ⟨3, aRead, departing_wins aRead⟩

theorem witness_arbiter_idle : ¬∃ p req, MayDepart base p req := fun ⟨_, _, h⟩ => List.not_mem_nil h.1

/-- A READ, for which entry 0 is the lowest FREE one, and a WRITE_P. -/
theorem witness_departure :
    Wins (departing aRead) 3 (slot aRead).request ∧ (departing aRead).queue 3 = slot aRead :: [] ∧
      isPosted (slot aRead).request = false ∧ LowestFree (departing aRead) 0 ∧
      Wins (departing aWriteP) 3 (slot aWriteP).request ∧ isPosted (slot aWriteP).request = true :=
  ⟨departing_wins _, by decide +kernel, by decide +kernel,
    ⟨by decide +kernel, fun m h => absurd h (by simp)⟩, departing_wins _, by decide +kernel⟩

/-- A deadline reached exactly, and one a microsecond ahead. -/
theorem witness_expiry :
    (givenUp.entry 5).state = .busy ∧ (givenUp.entry 5).deadline = some 100 ∧ 100 ≤ givenUp.clock.deviceTime ∧
      (givenUp.entry 6).state ≠ .busy ∧
      ((givenUp.setEntry 5 { busyEntry with deadline := some 101 }).entry 5).deadline = some 101 ∧
      givenUp.clock.deviceTime < 101 := by
  decide +kernel

theorem witness_quarantine_end :
    let s := base.setEntry 127 { busyEntry with state := .quarantine, deadline := none, quarantineEnd := some 100 }
    (s.entry 127).state = .quarantine ∧ (s.entry 127).quarantineEnd = some 100 ∧ 100 ≤ s.clock.deviceTime := by
  decide +kernel

theorem witness_sweep :
    (base.setCursor (.defaultStep 3)).sweeper.cursor = .defaultStep 3 ∧ (1022 : Tag) ≠ 1023 ∧
      (base.setCursor (.visit 3 1022)).sweeper.cursor = .visit 3 1022 ∧
      (base.setCursor (.visit 3 1023)).sweeper.cursor = .visit 3 1023 := by
  decide +kernel

/-- The Reply List with one item, the agent ANSWERING a READ with a WRITE_P and a READ behind it, the share at 7 of 8. -/
theorem witness_reply_placement :
    let mread := readRequest base manager .peek
    let s (i : ReplyItem) : State :=
      { base with
        replies := [i], mgmtQueue := [mread, request .writeP classMgmt 5 0 0, mread],
        responses := List.replicate 7 ⟨aRead, .bridge⟩ }
    base.replies = [] ∧ 8 ≤ ({ base with responses := List.replicate 8 ⟨aRead, .bridge⟩ } : State).bridgeCount ∧
      (s (.refusal aRead .retry (some 3))).replies = [.refusal aRead .retry (some 3)] ∧
      (s (.givenUp .timeout 127)).replies = [.givenUp .timeout 127] ∧ (s (.mgmt 0 0 0)).replies = [.mgmt 0 0 0] ∧
      (s (.mgmt 0 0 0)).bridgeCount < 8 ∧
      (s (.mgmt 0 0 0)).mgmtQueue = mread :: ([request .writeP classMgmt 5 0 0] ++ [mread]) ∧
      (∀ x ∈ [request .writeP classMgmt 5 0 0], isPosted x = true) ∧ isPosted mread = false := by
  decide +kernel

theorem witness_aborted_placement :
    let s : State := { base.setQueue 3 [{ slot aRead with aborting := true }] with replies := [.aborted 3] }
    s.replies = .aborted 3 :: [] ∧ s.bridgeCount < 8 ∧ s.queue 3 = { slot aRead with aborting := true } :: [] := by
  decide +kernel

theorem witness_response_send :
    let s : State :=
      { base with
        responses := [⟨response .readData 7 1 0 0, .target⟩], creditsI := { base.creditsI with heldResp := 1 } }
    s.responses = ⟨response .readData 7 1 0 0, .target⟩ :: [] ∧ s.linkI.state = .up ∧ 0 < s.creditsI.heldResp ∧
      base.responses = [] ∧ State.reset.linkI.state ≠ .up ∧ State.reset.creditsI.heldResp = 0 := by
  decide +kernel

/-- A request that waits and a WRITE_P that is dropped, on the last management credit. -/
theorem witness_mgmt_waits :
    let s : State := { base with creditsI := { base.creditsI with givenMgmt := 1 } }
    s.linkI.state = .up ∧ 0 < s.creditsI.givenMgmt ∧ (readRequest s manager .peek).isRequestOf classMgmt = true ∧
      ({ s with agent := { s.agent with state := .answering } } : State).agent.state = .answering ∧
      s.agent.state = .ready ∧ s.mgmtQueue = [] ∧ isPosted (request .writeP classMgmt 5 0 0) = true := by
  decide +kernel

/-- The management statements' premise, of the primary manager and of no other tag. -/
theorem witness_mgmt_open : MgmtOpen base manager ∧ isManager base 6 = false := by decide +kernel

theorem witness_mgmt_read :
    MgmtOpen base { tag := (readRequest base manager .peek).header.tag, txid := (readRequest base manager .peek).header.txid } ∧
      (readRequest base manager .peek).isRequestOf classMgmt = true ∧ isRead (readRequest base manager .peek) = true ∧
      (readRequest base manager .peek).header.beats = 1 ∧
      (readRequest base manager .peek).header.address = wordAddress base .peek ∧ WindowWord.peek ≠ .pop := by
  decide +kernel

/-- The checks of a request in the window at 0xFFFF_FF03_0000: two beats; the last word below it and the first past it; misaligned
at its last byte; a tag that is no manager's; an unassigned word; a WRITE of a read-only word. -/
theorem witness_mgmt_refused :
    let r (k : PacketKind) (tag : Tag) (b : BitVec 4) (a : BitVec 48) : Packet := request k classMgmt tag b a
    windowBase base.pins.wbase = 0xFFFFFF030000 ∧ (r .read 5 1 0xFFFFFF030000).header.beats ≠ 1 ∧
      (r .write 5 0 0xFFFFFF02FFF8).header.beats = 1 ∧
      (r .write 5 0 0xFFFFFF02FFF8).header.address.toNat < windowBase base.pins.wbase ∧
      windowBase base.pins.wbase + 0x10000 ≤ (r .write 5 0 0xFFFFFF040000).header.address.toNat ∧
      (r .read 5 0 0xFFFFFF03FFFF).header.address.toNat < windowBase base.pins.wbase + 0x10000 ∧
      ¬8 ∣ (r .read 5 0 0xFFFFFF03FFFF).header.address.toNat ∧
      isManager base (r .read 6 0 0xFFFFFF030000).header.tag = false ∧ wordAt 0xFFF8 = none ∧
      wordAt 0 = some .identity ∧ wordAt (0x1000 + 0x38) = some (.dynamic 0 0) ∧
      isPosted (r .write 5 0 0xFFFFFF030000) = false ∧ (r .write 5 0 0xFFFFFF030000).isRequestOf classMgmt = true := by
  decide +kernel

theorem witness_legal_config : LegalConfig cfg ∧ ¬LegalConfig powerOnConfig :=
  ⟨by constructor <;> decide +kernel, fun h => absurd h.spaceMin (by decide +kernel)⟩

/-- STAGE of a legal and of an illegal configuration; START; PAUSE and RESUME; SET_SPACING below and above its bounds. -/
theorem witness_pacer_commands :
    let s (x : PacerState) : State := base.setPacer 127 (pacerIn x)
    MgmtOpen (s .vacant) manager ∧ ((s .vacant).pacer 127).state = .vacant ∧ legal ((s .vacant).pacer 127).cfg = true ∧
      legal (base.pacer 127).cfg = false ∧ ((s .staged).pacer 127).state = .staged ∧
      ((s .live).pacer 127).state = .live ∧ ((s .paused).pacer 127).state = .paused ∧
      (49 : BitVec 16).toNat < cfg.spaceMin.toNat ∧ cfg.spaceMax.toNat < (2001 : BitVec 16).toNat := by
  decide +kernel

theorem witness_retire :
    bindable (live.pacer 3) = true ∧ bindable (pacerIn .staged) = true ∧ bindable (pacerIn .paused) = true ∧
      (admissions.pacer 15).state = .draining ∧ (admissions.pacer 15).retireMode = some .flush := by
  decide +kernel

/-- A refused cell of each command; a pacer field of 128; codes 0 and 9. -/
theorem witness_command_refused :
    refusedCell .stage (pacerIn .staged) ∧ refusedCell .start (pacerIn .live) ∧ refusedCell .pause (pacerIn .staged) ∧
      refusedCell .resume (pacerIn .live) ∧ refusedCell .retireFlush (pacerIn .vacant) ∧
      refusedCell .retireDiscard { pacerIn .draining with retireMode := some .discard } ∧
      refusedCell .setSpacing (pacerIn .draining) ∧ 128 ≤ (128 : BitVec 8).toNat ∧ 8 < (9 : BitVec 8).toNat := by
  simp only [refusedCell]
  decide +kernel

/-- ALERT_ENABLE before and after, with and without a record. -/
theorem witness_alert_enable :
    let off := writeEnables 0x7F base
    MgmtOpen base manager ∧ MgmtOpen off manager ∧ off.agent.enables.getLsbD 7 = false ∧
      base.agent.enables.getLsbD 7 = true ∧ base.notices.records = [] ∧ (withNotices 1 base).notices.records ≠ [] ∧
      (0x7F : MgmtWord).getLsbD 7 = false ∧ (0x80 : MgmtWord).getLsbD 7 = true := by
  decide +kernel

/-- The queue empty; its oldest a plain record; its oldest a crossing of pacer 3. -/
theorem witness_pop :
    base.notices.records = [] ∧ (withNotices 1 base).notices.records = ⟨.denied 0, 0⟩ :: [] ∧
      (NoticeBody.denied 0).crossingOf = none ∧ (NoticeBody.recovered 3 0).crossingOf = some 3 := by
  decide +kernel

/-- TICK_LEN 4, 5, 1280 and 1281 with no pacer LIVE or DRAINING; a LIVE one; PACER 127 and 128 with BOUND; BOUND clear. -/
theorem witness_settings :
    ((4 : MgmtWord).extractLsb' 0 16).toNat < 5 ∧ 5 ≤ ((5 : MgmtWord).extractLsb' 0 16).toNat ∧
      ((1280 : MgmtWord).extractLsb' 0 16).toNat ≤ 1280 ∧ 1280 < ((1281 : MgmtWord).extractLsb' 0 16).toNat ∧
      (live.pacer 3).state = .live ∧ (0x807F : MgmtWord).getLsbD 15 = true ∧
      ((0x807F : MgmtWord).extractLsb' 0 8).toNat = (127 : PacerId).val ∧
      128 ≤ ((0x8080 : MgmtWord).extractLsb' 0 8).toNat ∧ (0x0080 : MgmtWord).getLsbD 15 = false ∧
      bindable (pacerIn .sweeping) = false := by
  decide +kernel

theorem witness_unpaced : ¬∃ p : PacerId, (base.pacer p).state = .live ∨ (base.pacer p).state = .draining :=
  fun ⟨p, h⟩ => by
    have hp : base.pacer p = powerOnPacer := tableGet_replicate _ _
    rw [hp] at h
    exact absurd h (by decide +kernel)

/-- Entry 0's tag and another manager's; VALID clear and set. -/
theorem witness_managers :
    let s := base.setManager 3 { valid := true, tag := 6 }
    MgmtOpen s manager ∧ MgmtOpen s { tag := 6, txid := 1 } ∧ manager.tag = (s.manager 0).tag ∧
      (6 : Tag) ≠ (s.manager 0).tag ∧ (5 : MgmtWord).getLsbD 15 = false ∧ (0x8005 : MgmtWord).getLsbD 15 = true := by
  decide +kernel

/-- Of a STAGED or PAUSED pacer: SPACE_MIN 0 is illegal; FLIGHT_CAP 1 stands below FLIGHT 2, WINDOW 4 at WIN_COUNT 4; and
SPACE_MIN 300 is taken, SPACE_MIN 50 too. -/
theorem witness_configuration_write :
    let c : Pacer := { pacerIn .paused with flight := 2, winCount := 3 }
    c.state = .paused ∧ legal (configWithWord c.cfg 0 0) = false ∧ legal (configWithWord c.cfg 6 0x20001) = true ∧
      (configWithWord c.cfg 6 0x20001).flightCap.toNat < c.flight ∧ legal (configWithWord c.cfg 0 300) = true ∧
      legal (configWithWord c.cfg 3 0x02040002) = true ∧
      (configWithWord c.cfg 3 0x02040002).window.toNat ≤ ({ c with winCount := 4 } : Pacer).winCount ∧
      ¬(configWithWord c.cfg 3 0x02040002).window.toNat ≤ c.winCount := by
  decide +kernel

end Sys2Proof.Tests
end

section
/-!
PROOFS. Management requests that are taken as they arrive: each word's write and read, the commands of section 1.3 and
configuration writes.
-/

namespace Sys2Proof.Machine

/-! ### The words of the window (section 12.3) -/

/-- The word at place `k` of pacer `p`'s block is found from the block's place in the window (section 12.3.1). -/
theorem wordAt_pacerBlock (p : PacerId) {k : Nat} (hk : k < 16) :
    wordAt (0x1000 + 0x80 * p.val + 8 * k) = pacerWordAt p k := by
  have hd : (0x1000 + 0x80 * p.val + 8 * k) / 8 = 0x200 + 16 * p.val + k := by omega
  have hp : (0x200 + 16 * p.val + k - 0x200) / 16 = p.val := by omega
  have hr : (0x200 + 16 * p.val + k - 0x200) % 16 = k := by omega
  simp (disch := omega) only [wordAt, hd, if_neg, dif_neg, hr, hp]
  exact dif_pos ⟨by omega, p.isLt⟩

/-- The word whose offset it is stands there (section 12.3). -/
theorem wordAt_offset (w : WindowWord) : wordAt w.offset = some w := by
  cases w with
  | manager e => revert e; decide
  | counter c => revert c; decide
  | config p w =>
    rw [WindowWord.offset, wordAt_pacerBlock p (by omega)]
    exact dif_pos w.isLt
  | dynamic p w =>
    have ho : (WindowWord.dynamic p w).offset = 0x1000 + 0x80 * p.val + 8 * (7 + w.val) := by
      simp only [WindowWord.offset]; omega
    rw [ho, wordAt_pacerBlock p (by omega)]
    simp [pacerWordAt]
  | tagMap t =>
    have ht : t.toNat < 1024 := t.isLt
    have hd : (0x6000 + 8 * t.toNat) / 8 = 0xC00 + t.toNat := by omega
    simp (disch := omega) [wordAt, WindowWord.offset, hd, if_neg, dif_neg, ht]
  | outstanding n =>
    have hd : (0x8000 + 8 * n.val) / 8 = 0x1000 + n.val := by omega
    simp (disch := omega) [wordAt, WindowWord.offset, hd, if_neg, dif_neg]
  | _ => rfl

/-! ### A request taken as it arrives (R82, R142, R143, R145) -/

/-- What the arrival of a management request under its credit does before it is judged: the credit is used and the
request is the one in the Management Queue (R142, R163). -/
def opened (pkt : Packet) (s : State) : State :=
  { s with creditsI := { s.creditsI with givenMgmt := s.creditsI.givenMgmt - 1 }, mgmtQueue := [pkt] }

section Opened

variable (pkt : Packet) (s : State)

@[simp] theorem opened_pacer (p : PacerId) : (opened pkt s).pacer p = s.pacer p := rfl
@[simp] theorem opened_queue (p : PacerId) : (opened pkt s).queue p = s.queue p := rfl
@[simp] theorem opened_sweeper : (opened pkt s).sweeper = s.sweeper := rfl
@[simp] theorem opened_notices : (opened pkt s).notices = s.notices := rfl

end Opened

/-! An operation that neither reads nor writes the management credits and the Management Queue acts on the opened state
as on the state itself. -/

section Commutes

variable {pkt : Packet} {s t : State}

theorem ite_opened {c : Prop} [Decidable c] {a b a' b' : State} (ha : a' = opened pkt a) (hb : b' = opened pkt b) :
    (if c then a' else b') = opened pkt (if c then a else b) := by
  rw [ha, hb, apply_ite (opened pkt)]

theorem alertDue_opened (h : t = opened pkt s) : t.alertDue = opened pkt s.alertDue := by
  subst h
  unfold State.alertDue
  exact ite_opened rfl rfl

theorem enterNotice_opened (b : NoticeBody) (h : t = opened pkt s) :
    t.enterNotice b = opened pkt (s.enterNotice b) := by
  subst h
  unfold State.enterNotice
  exact ite_opened (alertDue_opened rfl) rfl

theorem plainNotice_opened (b : NoticeBody) (h : t = opened pkt s) :
    t.plainNotice b = opened pkt (s.plainNotice b) := by
  subst h
  unfold State.plainNotice
  exact ite_opened (ite_opened (enterNotice_opened b rfl) rfl) rfl

theorem denyAccess_opened (g : Tag) (h : t = opened pkt s) : denyAccess g t = opened pkt (denyAccess g s) := by
  subst h
  exact plainNotice_opened (.denied g) rfl

theorem crossing_opened (p : PacerId) (b : NoticeBody) (h : t = opened pkt s) :
    crossing p b t = opened pkt (crossing p b s) := by
  subst h
  unfold crossing
  refine ite_opened (ite_opened rfl (ite_opened ?_ rfl)) rfl
  rw [enterNotice_opened b rfl]
  rfl

theorem crossingCheck_opened (p : PacerId) (h : t = opened pkt s) :
    crossingCheck p t = opened pkt (crossingCheck p s) := by
  subst h
  unfold crossingCheck
  rw [opened_pacer]
  cases crossingResult (s.pacer p) with
  | goesSlow => exact crossing_opened p _ rfl
  | recovers => exact crossing_opened p _ rfl
  | stays => rfl

theorem withdrawCrossing_opened (p : PacerId) (h : t = opened pkt s) :
    withdrawCrossing p t = opened pkt (withdrawCrossing p s) := by
  subst h
  unfold withdrawCrossing
  exact ite_opened rfl rfl

theorem settleCalendar_opened (p : PacerId) (h : t = opened pkt s) :
    settleCalendar p t = opened pkt (settleCalendar p s) := by
  subst h
  unfold settleCalendar
  exact ite_opened rfl rfl

theorem startSweep_opened (h : t = opened pkt s) : startSweep t = opened pkt (startSweep s) := by
  subst h
  unfold startSweep
  rw [opened_sweeper]
  split <;> rfl

theorem drainCheck_opened (p : PacerId) (h : t = opened pkt s) : drainCheck p t = opened pkt (drainCheck p s) := by
  subst h
  unfold drainCheck
  exact ite_opened (startSweep_opened rfl) rfl

theorem returnTraffic_opened (h : t = opened pkt s) : t.returnTraffic = opened pkt s.returnTraffic := by
  subst h
  unfold State.returnTraffic
  exact ite_opened rfl rfl

theorem removeHead_opened (p : PacerId) (h : t = opened pkt s) : removeHead p t = opened pkt (removeHead p s) := by
  subst h
  unfold removeHead
  rw [opened_queue]
  cases s.queue p with
  | nil => rfl
  | cons h rest => exact returnTraffic_opened rfl

theorem discardFrom_opened (p : PacerId) (l : List HoldSlot) (h : t = opened pkt s) :
    discardFrom p l t = opened pkt (discardFrom p l s) := by
  subst h
  induction l generalizing s with
  | nil => rfl
  | cons h rest ih =>
    unfold discardFrom
    refine ite_opened ?_ (ite_opened rfl rfl)
    rw [removeHead_opened p rfl]
    exact ih (s := (removeHead p s).bump .postedDrops)

theorem processDiscard_opened (p : PacerId) (h : t = opened pkt s) :
    processDiscard p t = opened pkt (processDiscard p s) := by
  subst h
  exact drainCheck_opened p (discardFrom_opened p (s.queue p) rfl)

theorem rearmAlert_opened (h : t = opened pkt s) : rearmAlert t = opened pkt (rearmAlert s) := by
  subst h
  unfold rearmAlert
  exact ite_opened (alertDue_opened rfl) rfl

theorem writeEnables_opened (v : BitVec 8) (h : t = opened pkt s) :
    writeEnables v t = opened pkt (writeEnables v s) := by
  subst h
  unfold writeEnables
  exact ite_opened rfl (ite_opened (alertDue_opened rfl) rfl)

theorem popNotice_opened (h : t = opened pkt s) : popNotice t = opened pkt (popNotice s) := by
  subst h
  unfold popNotice
  rw [opened_notices]
  cases s.notices.records with
  | nil => rfl
  | cons r rest => cases hr : r.body.crossingOf <;> simp only [hr] <;> rfl

/-- An operation that also answers, on the opened state: its effects opened, and its answer. -/
def openedWith {β : Type} (pkt : Packet) (r : State × β) : State × β := (opened pkt r.1, r.2)

theorem ite_openedWith {β : Type} {c : Prop} [Decidable c] {a b a' b' : State × β} (ha : a' = openedWith pkt a)
    (hb : b' = openedWith pkt b) : (if c then a' else b') = openedWith pkt (if c then a else b) := by
  rw [ha, hb, apply_ite (openedWith pkt)]

theorem pair_openedWith {β : Type} (x : β) (h : t = opened pkt s) : (t, x) = openedWith pkt (s, x) := by
  subst h; rfl

theorem commandPause_opened (p : PacerId) :
    commandPause p (opened pkt s) = openedWith pkt (commandPause p s) := by
  unfold commandPause
  rw [opened_pacer]
  cases (s.pacer p).state <;> rfl

theorem commandSetSpacing_opened (p : PacerId) (v : BitVec 16) :
    commandSetSpacing p v (opened pkt s) = openedWith pkt (commandSetSpacing p v s) := by
  unfold commandSetSpacing
  rw [opened_pacer]
  cases (s.pacer p).state with
  | live => exact pair_openedWith _ (crossingCheck_opened p rfl)
  | paused => exact pair_openedWith _ (crossingCheck_opened p rfl)
  | _ => rfl

theorem drainingPacer_opened (p : PacerId) (m : RetireMode) (h : t = opened pkt s) :
    t.modPacer p (drainingPacer m) = opened pkt (s.modPacer p (drainingPacer m)) := by
  subst h; rfl

/-- The seven commands that name a pacer, and REARM_ALERT. -/
theorem pacerCommand_opened (k : Command) (p : PacerId) (v : BitVec 16) :
    pacerCommand k p v (opened pkt s) = openedWith pkt (pacerCommand k p v s) := by
  cases k with
  | stage => exact ite_openedWith (ite_openedWith rfl rfl) rfl
  | start => exact ite_openedWith (pair_openedWith _ (settleCalendar_opened p (crossingCheck_opened p rfl))) rfl
  | pause => exact commandPause_opened p
  | resume => exact ite_openedWith (pair_openedWith _ (settleCalendar_opened p rfl)) rfl
  | retireFlush =>
    have hw := drainingPacer_opened p .flush (withdrawCrossing_opened (pkt := pkt) (s := s) p rfl)
    exact ite_openedWith (pair_openedWith _ (drainCheck_opened p (settleCalendar_opened p hw))) rfl
  | retireDiscard =>
    have hw := drainingPacer_opened p .discard (withdrawCrossing_opened (pkt := pkt) (s := s) p rfl)
    have hl := congrArg (leaveCalendar p) hw
    exact ite_openedWith (pair_openedWith _ (processDiscard_opened p hl))
      (ite_openedWith (pair_openedWith _ (processDiscard_opened p rfl)) rfl)
  | setSpacing => exact commandSetSpacing_opened p v
  | rearmAlert => exact pair_openedWith _ (rearmAlert_opened rfl)

theorem judgeCommand_opened (code x : BitVec 8) (v : BitVec 16) :
    judgeCommand code x v (opened pkt s) = openedWith pkt (judgeCommand code x v s) := by
  unfold judgeCommand
  split
  · rfl
  · exact pair_openedWith _ (rearmAlert_opened rfl)
  · split
    · exact pacerCommand_opened _ _ v
    · rfl

theorem writeConfig_opened (p : PacerId) (w : Fin 7) (v : MgmtWord) :
    writeConfig p w v (opened pkt s) = openedWith pkt (writeConfig p w v s) := by
  simp only [writeConfig, opened_pacer]
  cases (s.pacer p).state with
  | staged => exact ite_openedWith rfl (ite_openedWith rfl rfl)
  | paused =>
    exact ite_openedWith rfl
      (ite_openedWith rfl (pair_openedWith _ (ite_opened (crossingCheck_opened p rfl) rfl)))
  | _ => rfl

theorem writeDefaultPacer_opened (v : MgmtWord) :
    writeDefaultPacer v (opened pkt s) = openedWith pkt (writeDefaultPacer v s) := by
  unfold writeDefaultPacer
  cases bindRequest v with
  | pacer p => exact ite_openedWith rfl rfl
  | _ => rfl

theorem writeTagMap_opened (g : Tag) (v : MgmtWord) :
    writeTagMap g v (opened pkt s) = openedWith pkt (writeTagMap g v s) := by
  unfold writeTagMap
  cases bindRequest v with
  | pacer p => exact ite_openedWith rfl rfl
  | _ => rfl

theorem writeTickLen_opened (v : MgmtWord) : writeTickLen v (opened pkt s) = openedWith pkt (writeTickLen v s) := by
  unfold writeTickLen
  exact ite_openedWith rfl (ite_openedWith rfl rfl)

theorem writeManager_opened (g : Tag) (e : Fin 4) (v : MgmtWord) :
    writeManager g e v (opened pkt s) = openedWith pkt (writeManager g e v s) := by
  unfold writeManager
  exact ite_openedWith (pair_openedWith _ (denyAccess_opened g rfl)) (ite_openedWith rfl rfl)

/-- No word's write reads or changes what the arrival of its request has done. -/
theorem writeWord_opened (g : Tag) (w : WindowWord) (v : MgmtWord) :
    writeWord g w v (opened pkt s) = openedWith pkt (writeWord g w v s) := by
  cases w with
  | tickLen => exact congrArg withStatus (writeTickLen_opened v)
  | enables => exact pair_openedWith _ (writeEnables_opened _ rfl)
  | defaultPacer => exact congrArg withStatus (writeDefaultPacer_opened v)
  | command => simp only [writeWord, writeCommand, judgeCommand_opened]; rfl
  | manager e => exact congrArg withStatus (writeManager_opened g e v)
  | config p k => exact congrArg withStatus (writeConfig_opened p k v)
  | tagMap t => exact congrArg withStatus (writeTagMap_opened t v)
  | _ => rfl

end Commutes

/-- A manager's request of one beat for a word reaches that word (R145). -/
theorem reach_word {pkt : Packet} {s : State} {src : Sender} {w : WindowWord} (hm : isManager s src.tag = true)
    (ht : pkt.header.tag = src.tag) (hb : pkt.header.beats = 1) (ha : pkt.header.address = wordAddress s w) :
    reach s pkt.header = .word w := by
  have ho := w.offset_lt
  have hw : windowBase s.pins.wbase % 8 = 0 := by simp only [windowBase]; omega
  have ha' : pkt.header.address.toNat = windowBase s.pins.wbase + w.offset := by rw [ha, wordAddress_toNat]
  have hin : w.offset < windowBytes := ho.1
  have h8 : (windowBase s.pins.wbase + w.offset) % 8 = 0 := by omega
  simp [reach, hb, ha', hin, h8, ht, hm, wordAt_offset]

/-- The arrival of a management READ or WRITE at a READY agent with nothing waiting is its taking (R143). -/
theorem arrive_open {pkt : Packet} {s : State} {src : Sender} (ho : MgmtOpen s src)
    (hp : pkt.isRequestOf classMgmt = true) (hq : isPosted pkt = false) :
    arrive .i pkt true s = takeRequest pkt (opened pkt s) := by
  obtain ⟨hl, hc, hr, hm, -⟩ := ho
  rw [arrive_mgmt hl hc hp]
  exact mgmtJoin_ready (s := { s with creditsI := { s.creditsI with givenMgmt := s.creditsI.givenMgmt - 1 } }) hr hm hq

/-- A WRITE of a word that is taken as it arrives: the word's own effects, and its answer (R145, R150). -/
theorem writeArrives_eq {s : State} {src : Sender} (ho : MgmtOpen s src) (w : WindowWord) (v : MgmtWord) :
    writeArrives src w v s =
      answered (writeWord src.tag w v s).1 (writeRequest s src w v) (writeWord src.tag w v s).2 := by
  obtain ⟨-, -, -, -, hm⟩ := id ho
  have hj : judgeRequest (writeRequest s src w v) (opened (writeRequest s src w v) s) =
      openedWith (writeRequest s src w v) (writeWord src.tag w v s) := by
    have hr : reach (opened (writeRequest s src w v) s) (writeRequest s src w v).header = .word w :=
      reach_word (src := src) hm rfl rfl rfl
    rw [← writeWord_opened]
    simp only [judgeRequest, hr, writeRequest_isRead, writtenWord_writeRequest]
    rfl
  rw [writeArrives, arrive_open ho (writeRequest_isRequestOf s src w v) rfl]
  simp only [takeRequest, hj]
  rfl

theorem readBeat_opened (pkt : Packet) (s : State) (w : WindowWord) : readBeat (opened pkt s) w = readBeat s w := by
  cases w <;> rfl

theorem afterRead_opened (pkt : Packet) (s : State) (w : WindowWord) :
    afterRead (opened pkt s) w = opened pkt (afterRead s w) := by
  cases w with
  | pop => exact popNotice_opened rfl
  | _ => rfl

/-- A READ of a word that is taken as it arrives: a pop's effects, and the word's beat (R149). -/
theorem readArrives_eq {s : State} {src : Sender} (ho : MgmtOpen s src) (w : WindowWord) :
    readArrives src w s =
      answered (afterRead s w) (readRequest s src w) { status := statusOk, detail := 0, beat := readBeat s w } := by
  obtain ⟨-, -, -, -, hm⟩ := id ho
  have hr : reach (opened (readRequest s src w) s) (readRequest s src w).header = .word w :=
    reach_word (src := src) hm rfl rfl rfl
  rw [readArrives, arrive_open ho (readRequest_isRequestOf s src w) rfl]
  simp only [takeRequest, judgeRequest, hr, readRequest_isRead, afterRead_opened, readBeat_opened]
  rfl

/-! ### The command word (R154, section 12.3) -/

@[simp] theorem commandWord_code (code x : BitVec 8) (v : BitVec 16) :
    (commandWord code x v).extractLsb' 0 8 = code := by
  simp only [commandWord, BitVec.extractLsb'_append_eq_right]

@[simp] theorem commandWord_pacer (code x : BitVec 8) (v : BitVec 16) : (commandWord code x v).extractLsb' 8 8 = x := by
  ext i hi
  rw [BitVec.getElem_extractLsb', commandWord]
  simp only [BitVec.getLsbD_append]
  simp [show ¬8 + i < 8 by omega, hi]

@[simp] theorem commandWord_operand (code x : BitVec 8) (v : BitVec 16) :
    (commandWord code x v).extractLsb' 16 16 = v := by
  ext i hi
  rw [BitVec.getElem_extractLsb', commandWord]
  simp only [BitVec.getLsbD_append]
  have hat : 16 + i - 8 - 8 = i := by omega
  simp [show ¬16 + i < 8 by omega, show ¬16 + i - 8 < 8 by omega, hat, hi]

/-- The command word written is its command judged, recorded and answered with its outcome (R154, R155). -/
theorem writeCommandWord_eq {s : State} {src : Sender} (ho : MgmtOpen s src) (code x : BitVec 8) (v : BitVec 16) :
    writeArrives src .command (commandWord code x v) s =
      commandDone s (judgeCommand code x v s).1 code src x v (judgeCommand code x v s).2 := by
  simp only [writeArrives_eq ho, writeWord, writeCommand, commandWord_code, commandWord_pacer, commandWord_operand]
  rfl

@[simp] theorem Command.ofCode_code (k : Command) : Command.ofCode k.code = some k := by
  cases k <;> decide

theorem pacerField_toNat (p : PacerId) : (pacerField p).toNat = p.val := by
  simp only [pacerField, BitVec.toNat_ofNat]
  omega

/-- A command that names a pacer of the table is that command of that pacer (R6). -/
theorem judgeCommand_pacer (k : Command) (p : PacerId) (v : BitVec 16) (s : State) :
    judgeCommand k.code (pacerField p) v s = pacerCommand k p v s := by
  have hp : (pacerField p).toNat < 128 := by rw [pacerField_toNat]; exact p.isLt
  have hf : (⟨(pacerField p).toNat, hp⟩ : PacerId) = p := Fin.ext (pacerField_toNat p)
  unfold judgeCommand
  rw [Command.ofCode_code]
  cases k with
  | rearmAlert => rfl
  | _ => simp only [dif_pos hp, hf]

/-- A command of the table's rows that is taken as it arrives (R6, R154, R155). -/
theorem commandArrives_eq {s : State} {src : Sender} (ho : MgmtOpen s src) (k : Command) (p : PacerId) (v : BitVec 16) :
    commandArrives k src (pacerField p) v s =
      commandDone s (pacerCommand k p v s).1 k.code src (pacerField p) v (pacerCommand k p v s).2 := by
  rw [commandArrives, writeCommandWord_eq ho, judgeCommand_pacer]

/-- The row of a command is the arrival of its command word. -/
theorem exec_commandRow (k : Command) (src : Sender) (x : BitVec 8) (v : BitVec 16) (s : State) :
    exec (commandRow k src x v) s = .next (commandArrives k src x v s) := by
  cases k <;> rfl

/-- The row of a command naming pacer `p` that is taken as it arrives, by what the command leaves and its outcome. -/
theorem exec_command {s e : State} {src : Sender} {o : CommandOutcome} (ho : MgmtOpen s src) (k : Command) (p : PacerId)
    (v : BitVec 16) (h : pacerCommand k p v s = (e, o)) :
    exec (commandRow k src (pacerField p) v) s = .next (commandDone s e k.code src (pacerField p) v o) := by
  rw [exec_commandRow, commandArrives_eq ho, h]

/-! ### Commands -/

/-- The last condition of R5, on SLOW_AT and SLOW_BAND. -/
theorem slowLegal_iff (c : PacerConfig) :
    (if c.slowAt = 0 then decide (c.slowBand = 0)
      else decide (c.spaceMin.toNat ≤ c.slowAt.toNat ∧ c.slowAt.toNat ≤ c.spaceMax.toNat)
        && decide (c.slowBand.toNat < c.slowAt.toNat)) = true ↔
      (c.slowAt ≠ 0 → c.spaceMin.toNat ≤ c.slowAt.toNat ∧ c.slowAt.toNat ≤ c.spaceMax.toNat ∧
        c.slowBand.toNat < c.slowAt.toNat) ∧ (c.slowAt = 0 → c.slowBand = 0) := by
  by_cases h : c.slowAt = 0
  · simp [h]
  · rw [if_neg h]
    simp only [Bool.and_eq_true, decide_eq_true_eq]
    tauto

/-- The check of R5 as the model makes it is the list of its conditions; the ranges of SPACE_MAX and SPACE_START follow from
SPACE_MIN's and the order. -/
theorem legal_iff (c : PacerConfig) : legal c = true ↔ LegalConfig c := by
  unfold legal
  rw [Bool.and_eq_true, slowLegal_iff]
  simp only [Bool.and_eq_true, decide_eq_true_eq]
  constructor
  · rintro ⟨⟨⟨⟨⟨⟨⟨⟨⟨⟨hmin, -⟩, -⟩, hup⟩, hdown⟩, hwin⟩, hmark⟩, hcap⟩, hqueue⟩, hord⟩, hslow, hoff⟩
    exact ⟨hmin, hord, hup, hdown, hwin, hmark, hcap, hqueue, hslow, hoff⟩
  · rintro ⟨hmin, hord, hup, hdown, hwin, hmark, hcap, hqueue, hslow, hoff⟩
    have hstart : 1 ≤ c.spaceStart.toNat := hmin.trans hord.1
    have hmax : 1 ≤ c.spaceMax.toNat := hstart.trans hord.2
    exact ⟨⟨⟨⟨⟨⟨⟨⟨⟨⟨hmin, hmax⟩, hstart⟩, hup⟩, hdown⟩, hwin⟩, hmark⟩, hcap⟩, hqueue⟩, hord⟩, hslow, hoff⟩

/-- Settles O50: the legality check condition by condition, and STAGE, whose one branch is on it. -/
theorem stageSetsTheContextAfresh : Obligations.Stage_sets_the_context_afresh := by
  refine ⟨legal_iff, fun src p v s ho hv => ⟨fun hl => ?_, fun hl => ?_⟩⟩
  · refine exec_command ho .stage p v ?_
    simp only [pacerCommand, commandStage, hv, (legal_iff _).mpr hl, if_true]
    rfl
  · refine exec_command ho .stage p v ?_
    have hf : ¬legal (s.pacer p).cfg = true := fun h => hl ((legal_iff _).mp h)
    simp only [pacerCommand, commandStage, hv, hf, if_true]
    rfl

/-- Settles O51: START of a STAGED pacer takes the one branch that accepts it. -/
theorem startMakesAPacerLive : Obligations.Start_makes_a_pacer_live := by
  intro src p v s ho hs
  refine exec_command ho .start p v ?_
  simp only [pacerCommand, commandStart, hs, if_true]
  rfl

/-- Settles O52, by the state the pacer is in. -/
theorem pauseAndResume : Obligations.Pause_and_resume := by
  intro src p v s ho
  refine ⟨fun hl => ?_, fun hp => ?_, fun hp => ?_⟩
  · refine exec_command ho .pause p v ?_
    simp only [pacerCommand, commandPause, hl]
    rfl
  · refine exec_command ho .pause p v ?_
    simp only [pacerCommand, commandPause, hp]
  · refine exec_command ho .resume p v ?_
    simp only [pacerCommand, commandResume, hp, if_true]
    rfl

/-- Settles O53: the operand is clamped in every state, and in LIVE and PAUSED the window restarts before the check. -/
theorem setSpacingClampsItsOperand : Obligations.Set_spacing_clamps_its_operand := by
  intro src p v s ho
  refine ⟨fun hs => ?_, fun hs => ?_⟩
  · refine exec_command ho .setSpacing p v ?_
    simp only [pacerCommand, commandSetSpacing, State.modPacer_eq, hs]
    rfl
  · refine exec_command ho .setSpacing p v ?_
    rcases hs with hs | hs <;> (simp only [pacerCommand, commandSetSpacing, hs]; rfl)

/-- Settles O54: a bindable state's pending crossing is withdrawn first; a FLUSH drain turned into DISCARD has none. -/
theorem retireDrainsAPacer : Obligations.Retire_drains_a_pacer := by
  intro src p v s ho
  refine ⟨fun hb => ?_, fun hb => ?_, fun hd hm => ?_⟩
  · refine exec_command ho .retireFlush p v ?_
    simp only [pacerCommand, commandRetireFlush, hb, if_true]
    rfl
  · refine exec_command ho .retireDiscard p v ?_
    simp only [pacerCommand, commandRetireDiscard, hb, if_true]
    rfl
  · refine exec_command ho .retireDiscard p v ?_
    have hb : ¬bindable (s.pacer p) = true := by simp [bindable, hd]
    simp only [pacerCommand, commandRetireDiscard, hb, hd, hm, and_self, if_true]
    rfl

theorem bindable_iff (c : Pacer) : bindable c = true ↔ c.state = .staged ∨ c.state = .live ∨ c.state = .paused := by
  cases h : c.state <;> simp [bindable, h]

/-- A Refused cell of the table of R6 changes nothing (R6). -/
theorem pacerCommand_refused {k : Command} {p : PacerId} {s : State} (v : BitVec 16) (h : refusedCell k (s.pacer p)) :
    pacerCommand k p v s = (s, .refusedState) := by
  cases k with
  | stage => exact if_neg h
  | start => exact if_neg h
  | pause =>
    obtain ⟨hl, hp⟩ := h
    simp only [pacerCommand, commandPause]
    cases hx : (s.pacer p).state <;> simp_all
  | resume => exact if_neg h
  | retireFlush =>
    obtain ⟨hs, hl, hp⟩ := h
    exact if_neg (by simp [bindable_iff, hs, hl, hp])
  | retireDiscard =>
    obtain ⟨hs, hl, hp, hd⟩ := h
    exact (if_neg (by simp [bindable_iff, hs, hl, hp])).trans (if_neg hd)
  | setSpacing =>
    obtain ⟨hs, hl, hp⟩ := h
    simp only [pacerCommand, commandSetSpacing]
    cases hx : (s.pacer p).state <;> simp_all
  | rearmAlert => exact h.elim

/-- A pacer field above 127 names no pacer (R154). -/
theorem judgeCommand_badPacer {k : Command} {x : BitVec 8} (v : BitVec 16) (s : State) (hk : k ≠ .rearmAlert)
    (hx : 128 ≤ x.toNat) : judgeCommand k.code x v s = (s, .badPacer) := by
  unfold judgeCommand
  rw [Command.ofCode_code]
  cases k with
  | rearmAlert => exact absurd rfl hk
  | _ => exact dif_neg (by omega)

/-- No command has code 0 or a code above 8 (R176). -/
theorem Command.ofCode_none {code : BitVec 8} (h : code = 0 ∨ 8 < code.toNat) : Command.ofCode code = none := by
  revert code; decide

/-- Settles O55: each of the three refusals leaves the state as the command word found it. -/
theorem commandIsRefused : Obligations.Command_is_refused := by
  intro src v s ho
  refine ⟨fun k p hr => exec_command ho k p v (pacerCommand_refused v hr), fun k x hk hx => ?_, fun code x hc => ?_⟩
  · rw [exec_commandRow, commandArrives, writeCommandWord_eq ho, judgeCommand_badPacer v s hk hx]
  · have hj : judgeCommand code x v s = (s, .badCommand) := by
      unfold judgeCommand
      rw [Command.ofCode_none hc]
    simp only [exec, execBadCommand, writeCommandWord_eq ho, hj]

/-! ### Configuration writes -/

/-- Test 2 of R18, word by word. -/
theorem underOccupied_iff (c : Pacer) (new : PacerConfig) (w : Fin 7) :
    underOccupied c new w = true ↔
      (w = 6 ∧ (new.flightCap.toNat < c.flight ∨ new.queueLimit.toNat < c.qlen)) ∨
        (w = 3 ∧ new.window.toNat ≤ c.winCount) := by
  by_cases h3 : w = 3
  · simp [underOccupied, h3]
  · by_cases h6 : w = 6 <;> simp [underOccupied, h3, h6]

/-- The row of a configuration write that is taken as it arrives, by what the write leaves and its status. -/
theorem exec_configurationWrite {s e : State} {src : Sender} {p : PacerId} {w : Fin 7} {v : MgmtWord}
    {status : BitVec 5} (ho : MgmtOpen s src) (h : writeConfig p w v s = (e, status)) :
    exec (.configurationWrite src p w v) s = .next (writeDone s e src (.config p w) v status) := by
  simp only [exec, execConfigurationWrite, writeArrives_eq ho, writeWord, h, withStatus, writeDone]

section WriteConfig

variable {s : State} {p : PacerId} (w : Fin 7) (v : MgmtWord)

/-- A VACANT pacer's word is taken as it is (R17). -/
theorem writeConfig_vacant (hs : (s.pacer p).state = .vacant) :
    writeConfig p w v s =
      (s.setPacer p { s.pacer p with cfg := configWithWord (s.pacer p).cfg w v }, statusOk) := by
  simp only [writeConfig, hs]

/-- LIVE, DRAINING and SWEEPING refuse the write (R17). -/
theorem writeConfig_refused
    (hs : (s.pacer p).state = .live ∨ (s.pacer p).state = .draining ∨ (s.pacer p).state = .sweeping) :
    writeConfig p w v s = (s, statusMgmtState) := by
  rcases hs with hs | hs | hs <;> simp only [writeConfig, hs]

/-- An illegal context is refused (R18, test 1). -/
theorem writeConfig_illegal (hs : (s.pacer p).state = .staged ∨ (s.pacer p).state = .paused)
    (hl : legal (configWithWord (s.pacer p).cfg w v) = false) : writeConfig p w v s = (s, statusMgmtParam) := by
  rcases hs with hs | hs <;> simp [writeConfig, hs, hl]

/-- A context below its occupancy is refused (R18, test 2). -/
theorem writeConfig_occupied (hs : (s.pacer p).state = .staged ∨ (s.pacer p).state = .paused)
    (hl : legal (configWithWord (s.pacer p).cfg w v) = true)
    (hu : underOccupied (s.pacer p) (configWithWord (s.pacer p).cfg w v) w = true) :
    writeConfig p w v s = (s, statusMgmtState) := by
  rcases hs with hs | hs <;> simp [writeConfig, hs, hl, hu]

/-- The context after an accepted write to a STAGED or PAUSED pacer (R19). -/
def rewritten (c : Pacer) (w : Fin 7) (v : MgmtWord) : Pacer :=
  { c with cfg := configWithWord c.cfg w v, spacing := spacingAfterWrite c (configWithWord c.cfg w v) w }

theorem writeConfig_staged (hs : (s.pacer p).state = .staged)
    (hl : legal (configWithWord (s.pacer p).cfg w v) = true)
    (hu : underOccupied (s.pacer p) (configWithWord (s.pacer p).cfg w v) w = false) :
    writeConfig p w v s = (s.setPacer p (rewritten (s.pacer p) w v), statusOk) := by
  simp [writeConfig, rewritten, hs, hl, hu]

theorem writeConfig_paused (hs : (s.pacer p).state = .paused)
    (hl : legal (configWithWord (s.pacer p).cfg w v) = true)
    (hu : underOccupied (s.pacer p) (configWithWord (s.pacer p).cfg w v) w = false) :
    writeConfig p w v s =
      (if checkAfterWrite (s.pacer p) (configWithWord (s.pacer p).cfg w v) w then
          crossingCheck p (s.setPacer p (rewritten (s.pacer p) w v))
        else s.setPacer p (rewritten (s.pacer p) w v), statusOk) := by
  simp [writeConfig, rewritten, hs, hl, hu]

end WriteConfig

/-- The crossing check follows an accepted write to a PAUSED pacer that was of word 4 or moved SPACING (R19, R35). -/
theorem checkAfterWrite_iff {c : Pacer} (new : PacerConfig) (w : Fin 7) (hs : c.state = .paused) :
    checkAfterWrite c new w = true ↔ w = 4 ∨ spacingAfterWrite c new w ≠ c.spacing := by
  simp [checkAfterWrite, hs]

/-- Settles O60, by the state the pacer is in and the two tests of R18. -/
theorem configurationIsWritten : Obligations.Configuration_is_written := by
  intro src p w v s ho
  refine ⟨fun hs => ?_, fun hs => ?_, fun hs hl => ?_, fun hs hl hb => ?_, fun hs hl hb => ?_, fun hs hl hb => ?_⟩
  · exact exec_configurationWrite ho (writeConfig_vacant w v hs)
  · exact exec_configurationWrite ho (writeConfig_refused w v hs)
  · exact exec_configurationWrite ho (writeConfig_illegal w v hs hl)
  · exact exec_configurationWrite ho (writeConfig_occupied w v hs hl ((underOccupied_iff _ _ w).mpr hb))
  · have hu := Bool.eq_false_iff.mpr (mt (underOccupied_iff _ _ w).mp hb)
    exact exec_configurationWrite ho (writeConfig_staged w v hs hl hu)
  · have hu := Bool.eq_false_iff.mpr (mt (underOccupied_iff _ _ w).mp hb)
    refine exec_configurationWrite ho ((writeConfig_paused w v hs hl hu).trans (Prod.ext ?_ rfl))
    exact if_congr (checkAfterWrite_iff _ w hs) rfl rfl

end Sys2Proof.Machine
end

section
/-!
PROOFS. The drain completion check (R15, R88), and the state after reset.
-/

namespace Sys2Proof.Machine

theorem drained_iff (c : Pacer) : drained c = true ↔ c.state = .draining ∧ c.qlen = 0 ∧ c.flight = 0 := by
  simp [drained, and_assoc]

/-- Settles O20: the check asks for the three conditions, and an idle Sweeper takes the pacer off the queue again. -/
theorem drainCompletesAtZero : Obligations.Drain_completes_at_zero := by
  refine fun p s => ⟨fun h => if_neg (mt (drained_iff _).mp h), fun hd hq hf hidle => ?_⟩
  have hdr : drained (s.pacer p) = true := (drained_iff _).mpr ⟨hd, hq, hf⟩
  simp only [drainCheck, hdr, if_true, startSweep, State.modPacer_eq, State.setPacer_sweeper]
  cases hc : s.sweeper.cursor with
  | idle => simp [hidle hc]
  | defaultStep q => simp
  | visit q k => simp

/-! ### The state after reset -/

/-- Settles O24: each block is read off `powerOn`. -/
theorem resetValues : Obligations.Reset_values := by
  refine ⟨?_, rfl, rfl, rfl, rfl, rfl⟩
  exact
    { clock := ⟨rfl, rfl, rfl, rfl, rfl⟩
      pacers := fun p => powerOn_pacer _ _ _ p
      queues := fun p => powerOn_queue _ _ _ p
      calendar := rfl
      tagMap := fun g => powerOn_binding _ _ _ g
      defaultPacer := rfl
      outstanding := fun n => powerOn_entry _ _ _ n
      responses := rfl
      replies := rfl
      notices := rfl
      mgmtQueue := rfl
      agent := ⟨rfl, rfl, rfl, rfl⟩
      managers := ⟨rfl, by decide⟩
      counters := fun c => powerOn_counter _ _ _ c
      lastCommand := rfl
      sweeper := rfl }

section PowerOn

variable (r : Bool) (w : BitVec 4) (g : Tag)

theorem powerOn_contextLaw : ContextLaw (powerOn r w g) := by
  intro p
  rw [powerOn_pacer]
  have hv : powerOnPacer.state = .vacant := rfl
  exact ⟨fun h => absurd hv h, fun h => absurd hv h, fun h => absurd hv h, fun h => absurd hv h⟩

theorem powerOn_adaptationLaw : AdaptationLaw (powerOn r w g) := by
  intro p
  rw [powerOn_pacer]
  constructor <;> (intro h; cases h)

theorem powerOn_tableLaw : TableLaw (powerOn r w g) where
  pacers p := by
    have hp := powerOn_pacer r w g p
    have hq := powerOn_queue r w g p
    have hb : (powerOn r w g).busyCount p = 0 := countP_replicate_of_false (by rfl)
    have hs : sweepList (powerOn r w g) = [] := rfl
    have hc : (powerOn r w g).calendar = [] := rfl
    have hr : (powerOn r w g).replies = [] := rfl
    constructor <;> simp [hp, hq, hb, hs, hc, hr, powerOnPacer, onTerms, drained, marksRight]
  sorted := List.Pairwise.nil
  sweepOnce := List.nodup_nil
  sweepBusy _ := rfl

theorem powerOn_bindingLaw : BindingLaw (powerOn r w g) where
  bound t p h := by simp at h
  default _ h := nomatch h
  sweptDefault _ _ h := nomatch h
  sweptEntries _ _ _ h := nomatch h

theorem powerOn_noticeLaw : NoticeLaw (powerOn r w g) where
  room := Nat.zero_le _
  pending p := by rw [powerOn_pacer]; rfl
  quiet p _ := by rw [powerOn_pacer]; rfl

theorem powerOn_queuedSlots : (powerOn r w g).queuedSlots = 0 := by
  simp [State.queuedSlots, powerOn, Vector.toList_replicate]

theorem powerOn_creditLaw : CreditLaw (powerOn r w g) := by
  have ho : (powerOn r w g).occupiedSlots = 0 := by
    simp only [State.occupiedSlots, powerOn_queuedSlots]; rfl
  exact
    { traffic := fun h => nomatch h
      slots := by rw [ho]; exact Nat.zero_le _
      mgmt := fun h => nomatch h
      requests := Nat.zero_le _
      target := fun h => nomatch h
      targetShare := Nat.zero_le _
      bridgeShare := Nat.zero_le _
      heldResp := Nat.le_refl _
      heldReq := Nat.le_refl _
      checksI := fun _ h => nomatch h
      checksT := fun _ h => nomatch h }

theorem powerOn_outstandingLaw : OutstandingLaw (powerOn r w g) := by
  intro n
  have he := powerOn_entry r w g n
  have hr : (powerOn r w g).replies = [] := rfl
  constructor <;> simp [he, hr, powerOnEntry]

theorem powerOn_agentLaw : AgentLaw (powerOn r w g) where
  ready _ := rfl
  answering h := nomatch h
  item := rfl
  primary := rfl
  tickLen := by
    have h : (powerOn r w g).agent.tickLen.toNat = 25 := rfl
    omega
  tickSpan := by
    have h : (powerOn r w g).clock.tickSpan = 25 := rfl
    omega
  tickPast := Nat.succ_pos 24
  unitsPast := Nat.succ_pos 249

end PowerOn

/-- Settles O1: reset is the power-on state of the straps not yet sampled. -/
theorem resetHasEveryLaw : Obligations.Reset_has_every_law :=
  ⟨powerOn_contextLaw _ _ _, powerOn_adaptationLaw _ _ _, powerOn_tableLaw _ _ _, powerOn_bindingLaw _ _ _,
    powerOn_noticeLaw _ _ _, powerOn_creditLaw _ _ _, powerOn_outstandingLaw _ _ _, powerOn_agentLaw _ _ _⟩

end Sys2Proof.Machine
end

section
/-!
PROOFS. What one step can do: every command's step is one of a few events, with the guards under which it comes; what a
management request can do; and what the operations leave unchanged.
-/

namespace Sys2Proof.Machine

/-! ### The events of a step -/

/-- What a step of `s`, its command taken off the queue, can leave. -/
inductive Event (s : State) : State → Prop
  | stays : Event s s
  | idles : Event s (idle s)
  | ticks : s.pins.resetN = true → Event s { s with clock := s.clock.tick s.agent.tickLen }
  | powersOn (wbase : BitVec 4) (pmtag : Tag) :
    Event s
      { enterInitWait .t (enterInitWait .i (powerOn true wbase pmtag)) with draws := s.draws, pending := s.pending }
  | traffic {pkt : Packet} (link : s.linkI.state = .up) (credit : 0 < s.creditsI.givenTraffic)
    (request : pkt.isRequestOf classTraffic = true) : Event s (takeTraffic pkt s)
  | mgmt {pkt : Packet} (link : s.linkI.state = .up) (credit : 0 < s.creditsI.givenMgmt)
    (request : pkt.isRequestOf classMgmt = true) : Event s (takeMgmt pkt s)
  | response {pkt : Packet} (link : s.linkT.state = .up) (credit : 0 < s.creditsT.givenResp)
    (response : pkt.isResponse = true) : Event s (takeTargetResponse pkt s)
  | credit {p : PortId} {h : Header} (link : (s.link p).state = .up) (sound : creditFaulty p h s = false) :
    Event s (takeCredit p h.creditCount.toNat s)
  | bringsUp {p : PortId} {h : Header} (link : (s.link p).state = .initWait) (grant : partnerGrant p h ≠ 0) :
    Event s (bringUp p h s)
  | faults {p : PortId} (link : (s.link p).state = .initWait ∨ (s.link p).state = .up) : Event s (faultSequence p s)
  | takesReset {p : PortId} (link : (s.link p).state ≠ .down) : Event s (takeReset p s)
  | resetSent {p : PortId} (link : (s.link p).state = .fault) :
    Event s (enterInitWait p (s.setLink p { s.link p with lane := withoutReset (s.link p).lane }))
  | resends {p : PortId} (reached : resendReached s (s.link p) = true) : Event s (sendInit p s)
  | sendsCredit (which : CreditReturn) : Event s (creditSendOnce which s)
  | departs {p : PacerId} {h : HoldSlot} {rest : List HoldSlot} (wins : winner s = some p)
    (head : s.queue p = h :: rest) : Event s (depart p h.request s)
  | expires {n : EntryId} (reached : deadlineReached s (s.entry n) = true) : Event s (expire n s)
  | quarantineEnds {n : EntryId} (reached : quarantineReached s (s.entry n) = true) :
    Event s (s.setEntry n (releaseEntry (s.entry n)))
  | sweepsDefault {p : PacerId} (cursor : s.sweeper.cursor = .defaultStep p) : Event s (defaultPacerStep p s)
  | sweepsEntry {p : PacerId} {k : Tag} (cursor : s.sweeper.cursor = .visit p k) : Event s (visitEntry p k s)
  | places {i : ReplyItem} {rest : List ReplyItem} {pkt : Packet} (oldest : s.replies = i :: rest)
    (room : s.bridgeCount < Config.bridgeShare) (composed : composeReply s i = some pkt) :
    Event s (placeItem i rest pkt s)
  | sends {r : BufferedResponse} {rest : List BufferedResponse} (oldest : s.responses = r :: rest)
    (link : s.linkI.state = .up) (credit : 0 < s.creditsI.heldResp) : Event s (sendResponse r rest s)

theorem soundKind_some {pkt : Packet} {ok : Bool} {k : PacketKind} (h : soundKind pkt ok = some k) :
    pkt.framed = true ∧ pkt.kind? = some k := by
  unfold soundKind at h
  split at h
  · rename_i hf
    exact ⟨(Bool.and_eq_true_iff.mp hf).1, h⟩
  · cases h

theorem isRequestOf_of_kind {pkt : Packet} {k : PacketKind} (hf : pkt.framed = true) (hk : pkt.kind? = some k)
    (hr : k.isRequest = true) : pkt.isRequestOf pkt.header.cls = true := by
  simp [Packet.isRequestOf, hk, hr, hf]

theorem isResponse_of_kind {pkt : Packet} {k : PacketKind} (hf : pkt.framed = true) (hk : pkt.kind? = some k)
    (hr : k.isResponse = true) : pkt.isResponse = true := by
  simp [Packet.isResponse, hk, hr, hf]

/-- A request that is no fault is taken on Link port I by its class (R163). -/
theorem event_of_request {s : State} {p : PortId} {pkt : Packet} {k : PacketKind} (hl : (s.link p).state = .up)
    (hf : pkt.framed = true) (hk : pkt.kind? = some k) (hr : k.isRequest = true)
    (hs : requestFaulty p pkt.header s = false) : Event s (takeRequestPacket pkt s) := by
  have hreq := isRequestOf_of_kind hf hk hr
  cases p with
  | t => cases hs
  | i =>
    unfold takeRequestPacket
    unfold requestFaulty at hs
    split
    · rename_i hc
      rw [hc] at hreq
      simp only [hc, if_true, decide_eq_false_iff_not] at hs
      exact .traffic hl (Nat.pos_of_ne_zero hs) hreq
    · rename_i hc
      simp only [hc, if_false] at hs
      split at hs
      · rename_i hm
        rw [hm] at hreq
        simp only [decide_eq_false_iff_not] at hs
        exact .mgmt hl (Nat.pos_of_ne_zero hs) hreq
      · cases hs

/-- A response that is no fault is taken on Link port T (R163). -/
theorem event_of_response {s : State} {p : PortId} {pkt : Packet} {k : PacketKind} (hl : (s.link p).state = .up)
    (hf : pkt.framed = true) (hk : pkt.kind? = some k) (hr : k.isResponse = true) (hs : responseFaulty p s = false) :
    Event s (takeTargetResponse pkt s) := by
  cases p with
  | i => cases hs
  | t =>
    simp only [responseFaulty, decide_eq_false_iff_not] at hs
    exact .response hl (Nat.pos_of_ne_zero hs) (isResponse_of_kind hf hk hr)

/-- A packet that is no fault of a port in UP (R166). -/
theorem handleInUp_event {s : State} {p : PortId} {pkt : Packet} {k : PacketKind} (hl : (s.link p).state = .up)
    (hf : pkt.framed = true) (hk : pkt.kind? = some k) (hs : faultyInUp p k pkt.header s = false) :
    Event s (handleInUp p k pkt s) := by
  cases k with
  | read => exact event_of_request hl hf hk rfl hs
  | write => exact event_of_request hl hf hk rfl hs
  | writeP => exact event_of_request hl hf hk rfl hs
  | readData => exact event_of_response hl hf hk rfl hs
  | writeDone => exact event_of_response hl hf hk rfl hs
  | credit => exact .credit hl hs
  | reset => exact .takesReset (by rw [hl]; decide)
  | init => exact .stays
  | alert => exact .stays

/-- A packet that is no fault of a port in INIT_WAIT (R162, R169). -/
theorem handleInInitWait_event {s : State} {p : PortId} {pkt : Packet} {k : PacketKind}
    (hl : (s.link p).state = .initWait) (hs : faultyInInitWait p k pkt.header = false) :
    Event s (handleInInitWait p k pkt s) := by
  cases k with
  | init => exact .bringsUp hl (by simpa [faultyInInitWait] using hs)
  | reset => exact .takesReset (by rw [hl]; decide)
  | _ => exact .stays

/-- An arriving packet is not taken, discarded, a fault, or handled by its kind (R159, R166 to R169). -/
theorem arrive_event (p : PortId) (pkt : Packet) (ok : Bool) (s : State) : Event s (arrive p pkt ok s) := by
  unfold arrive
  cases hl : (s.link p).state with
  | down => exact .stays
  | fault =>
    dsimp only
    split
    · exact .takesReset (by rw [hl]; decide)
    · exact .stays
  | initWait =>
    cases hk : soundKind pkt ok with
    | none => exact .faults (.inl hl)
    | some k =>
      dsimp only
      split
      · exact .faults (.inl hl)
      · rename_i hf
        exact handleInInitWait_event hl (Bool.eq_false_iff.mpr hf)
  | up =>
    cases hk : soundKind pkt ok with
    | none => exact .faults (.inr hl)
    | some k =>
      obtain ⟨hfr, hkind⟩ := soundKind_some hk
      dsimp only
      split
      · exact .faults (.inr hl)
      · rename_i hf
        exact handleInUp_event hl hfr hkind (Bool.eq_false_iff.mpr hf)

theorem execDeparture_event {s t : State} (h : execDeparture s = .next t) : Event s t := by
  cases h
  cases hw : winner s with
  | none => exact .stays
  | some p =>
    cases hq : s.queue p with
    | nil => simp only [hq]; exact .stays
    | cons x rest => simp only [hq]; exact .departs hw hq

theorem execReplyPlacement_event {s t : State} (h : execReplyPlacement s = .next t) : Event s t := by
  cases h
  cases hr : s.replies with
  | nil => exact .stays
  | cons i rest =>
    dsimp only
    split
    · rename_i hb
      cases hc : composeReply s i with
      | none => exact .stays
      | some pkt => exact .places hr hb hc
    · exact .stays

theorem execResponseSend_event {s t : State} (h : execResponseSend s = .next t) : Event s t := by
  cases h
  cases hr : s.responses with
  | nil => exact .stays
  | cons r rest =>
    dsimp only
    split
    · rename_i hg
      exact .sends hr hg.1 hg.2
    · exact .stays

theorem execSweep_event {s t : State}
    (h : execSweepDefaultPacerStep s = .next t ∨ execSweepEntryVisit s = .next t) : Event s t := by
  rcases h with h | h
  · cases h
    cases hc : s.sweeper.cursor with
    | defaultStep p => exact .sweepsDefault hc
    | _ => exact .stays
  · cases h
    cases hc : s.sweeper.cursor with
    | visit p k => exact .sweepsEntry hc
    | _ => exact .stays

/-- Every command is one event. The arrivals, and with them all management rows, are an arriving packet's. -/
theorem exec_event {i : Instr} {s t : State} (h : exec i s = .next t) : Event s t := by
  cases i with
  | powerOnReset wbase pmtag => cases h; exact .powersOn wbase pmtag
  | pacingTick =>
    cases h
    split
    · rename_i hr
      exact .ticks hr
    · exact .stays
  | faultResetSent p =>
    cases h
    split
    · rename_i hl
      exact .resetSent hl
    · exact .stays
  | initResend p =>
    cases h
    split
    · rename_i hr
      exact .resends hr
    · exact .stays
  | creditSend which => cases h; exact .sendsCredit which
  | departure => exact execDeparture_event h
  | expiry n =>
    cases h
    split
    · rename_i hr
      exact .expires hr
    · exact .stays
  | quarantineEnd n =>
    cases h
    split
    · rename_i hr
      exact .quarantineEnds hr
    · exact .stays
  | sweepDefaultPacerStep => exact execSweep_event (.inl h)
  | sweepEntryVisit => exact execSweep_event (.inr h)
  | replyPlacement => exact execReplyPlacement_event h
  | responseSend => exact execResponseSend_event h
  | _ => cases h; exact arrive_event _ _ _ s

/-- Every step is one event on the state with its command taken off the queue; with none waiting it idles. -/
theorem step_event {s t : State} (h : step s = .next t) : ∃ rest, Event { s with pending := rest } t := by
  unfold step at h
  split at h
  · cases h
    exact ⟨s.pending, .idles⟩
  · rename_i c rest _
    exact ⟨rest, exec_event h⟩

/-! ### The effects of a management request -/

/-- What a command can leave (R6 to R13, R137). -/
inductive CommandEffect (s : State) : State → Prop
  | none : CommandEffect s s
  | rearms : CommandEffect s (rearmAlert s)
  | stages {p : PacerId} (state : (s.pacer p).state = .vacant) (lawful : legal (s.pacer p).cfg = true) :
    CommandEffect s (s.setPacer p (stagedPacer (s.pacer p)))
  | starts {p : PacerId} (state : (s.pacer p).state = .staged) :
    CommandEffect s
      (settleCalendar p (crossingCheck p (s.setPacer p (startedPacer s.clock.pacingTime (s.pacer p)))))
  | pauses {p : PacerId} (state : (s.pacer p).state = .live) :
    CommandEffect s (leaveCalendar p (s.setPacer p { s.pacer p with state := .paused }))
  | resumes {p : PacerId} (state : (s.pacer p).state = .paused) :
    CommandEffect s (settleCalendar p (s.setPacer p (resumedPacer s.clock.pacingTime (s.pacer p))))
  | flushes {p : PacerId} (state : bindable (s.pacer p) = true) :
    CommandEffect s (drainCheck p (settleCalendar p ((withdrawCrossing p s).modPacer p (drainingPacer .flush))))
  | discards {p : PacerId} (state : bindable (s.pacer p) = true) :
    CommandEffect s (processDiscard p (leaveCalendar p ((withdrawCrossing p s).modPacer p (drainingPacer .discard))))
  | turns {p : PacerId} (state : (s.pacer p).state = .draining) (mode : (s.pacer p).retireMode = some .flush) :
    CommandEffect s (processDiscard p (leaveCalendar p (s.modPacer p (drainingPacer .discard))))
  | spaces {p : PacerId} (v : BitVec 16) (state : (s.pacer p).state = .staged) :
    CommandEffect s (s.setPacer p { s.pacer p with spacing := clampSpacing (s.pacer p).cfg v })
  | respaces {p : PacerId} (v : BitVec 16) (state : adapts (s.pacer p) = true) :
    CommandEffect s
      (crossingCheck p
        (s.setPacer p (windowRestart { s.pacer p with spacing := clampSpacing (s.pacer p).cfg v })))

theorem commandSetSpacing_effect (p : PacerId) (v : BitVec 16) (s : State) :
    CommandEffect s (commandSetSpacing p v s).1 := by
  unfold commandSetSpacing
  cases hs : (s.pacer p).state with
  | staged => exact .spaces v hs
  | live => exact .respaces v (by simp [adapts, hs])
  | paused => exact .respaces v (by simp [adapts, hs])
  | _ => exact .none

theorem commandPause_effect (p : PacerId) (s : State) : CommandEffect s (commandPause p s).1 := by
  unfold commandPause
  cases hs : (s.pacer p).state with
  | live => exact .pauses hs
  | _ => exact .none

theorem commandRetireDiscard_effect (p : PacerId) (s : State) : CommandEffect s (commandRetireDiscard p s).1 := by
  unfold commandRetireDiscard
  split
  · rename_i hb
    exact .discards hb
  · split
    · rename_i hd
      exact .turns hd.1 hd.2
    · exact .none

theorem commandStage_effect (p : PacerId) (s : State) : CommandEffect s (commandStage p s).1 := by
  unfold commandStage
  split
  · rename_i hs
    split
    · rename_i hl
      exact .stages hs hl
    · exact .none
  · exact .none

theorem pacerCommand_effect (k : Command) (p : PacerId) (v : BitVec 16) (s : State) :
    CommandEffect s (pacerCommand k p v s).1 := by
  cases k with
  | stage => exact commandStage_effect p s
  | start =>
    simp only [pacerCommand, commandStart]
    split
    · rename_i hs
      exact .starts hs
    · exact .none
  | pause => exact commandPause_effect p s
  | resume =>
    simp only [pacerCommand, commandResume]
    split
    · rename_i hs
      exact .resumes hs
    · exact .none
  | retireFlush =>
    simp only [pacerCommand, commandRetireFlush]
    split
    · rename_i hb
      exact .flushes hb
    · exact .none
  | retireDiscard => exact commandRetireDiscard_effect p s
  | setSpacing => exact commandSetSpacing_effect p v s
  | rearmAlert => exact .rearms

theorem judgeCommand_effect (code x : BitVec 8) (v : BitVec 16) (s : State) :
    CommandEffect s (judgeCommand code x v s).1 := by
  unfold judgeCommand
  split
  · exact .none
  · exact .rearms
  · split
    · exact pacerCommand_effect _ _ v s
    · exact .none

/-- What the judging of a management request can leave (R145 to R153). -/
inductive RequestEffect (s : State) : State → Prop
  | none : RequestEffect s s
  | denies (g : Tag) : RequestEffect s (denyAccess g s)
  | pops : RequestEffect s (popNotice s)
  | setsTickLen {x : BitVec 16} (unpaced : anyPaced s = false) (range : 5 ≤ x.toNat ∧ x.toNat ≤ 1280) :
    RequestEffect s { s with agent := { s.agent with tickLen := x } }
  | setsTimeout (x : BitVec 16) : RequestEffect s { s with agent := { s.agent with respTimeout := x } }
  | setsEnables (x : BitVec 8) : RequestEffect s (writeEnables x s)
  | setsDefault {b : Option PacerId} (named : ∀ p, b = some p → bindable (s.pacer p) = true) :
    RequestEffect s { s with defaultPacer := b }
  | binds {b : Option PacerId} (g : Tag) (named : ∀ p, b = some p → bindable (s.pacer p) = true) :
    RequestEffect s (s.setBinding g b)
  | setsManager {e : Fin 4} {m : ManagerEntry} (primary : e = 0 → m.valid = true) :
    RequestEffect s (s.setManager e m)
  | clears (c : Fin 16) : RequestEffect s (s.setCounterAt c 0)
  | configures {p : PacerId} (w : Fin 7) (v : MgmtWord) (state : (s.pacer p).state = .vacant) :
    RequestEffect s (s.setPacer p { s.pacer p with cfg := configWithWord (s.pacer p).cfg w v })
  | rewrites {p : PacerId} (w : Fin 7) (v : MgmtWord)
    (state : (s.pacer p).state = .staged ∨ (s.pacer p).state = .paused)
    (lawful : legal (configWithWord (s.pacer p).cfg w v) = true)
    (fits : underOccupied (s.pacer p) (configWithWord (s.pacer p).cfg w v) w = false) :
    RequestEffect s (s.setPacer p (rewritten (s.pacer p) w v))
  | rewritesAndChecks {p : PacerId} (w : Fin 7) (v : MgmtWord) (state : (s.pacer p).state = .paused)
    (lawful : legal (configWithWord (s.pacer p).cfg w v) = true)
    (fits : underOccupied (s.pacer p) (configWithWord (s.pacer p).cfg w v) w = false) :
    RequestEffect s (crossingCheck p (s.setPacer p (rewritten (s.pacer p) w v)))
  | commands {t : State} (last : LastCommand) (effect : CommandEffect s t) :
    RequestEffect s { t with agent := { t.agent with lastCommand := last } }

theorem writeConfig_effect (p : PacerId) (w : Fin 7) (v : MgmtWord) (s : State) :
    RequestEffect s (writeConfig p w v s).1 := by
  have parked (hs : (s.pacer p).state = .staged ∨ (s.pacer p).state = .paused) :
      RequestEffect s (writeConfig p w v s).1 := by
    cases hl : legal (configWithWord (s.pacer p).cfg w v) with
    | false => rw [writeConfig_illegal w v hs hl]; exact .none
    | true =>
      cases hu : underOccupied (s.pacer p) (configWithWord (s.pacer p).cfg w v) w with
      | true => rw [writeConfig_occupied w v hs hl hu]; exact .none
      | false =>
        rcases hs with hs | hs
        · rw [writeConfig_staged w v hs hl hu]
          exact .rewrites w v (.inl hs) hl hu
        · rw [writeConfig_paused w v hs hl hu]
          dsimp only
          split
          · exact .rewritesAndChecks w v hs hl hu
          · exact .rewrites w v (.inr hs) hl hu
  cases hs : (s.pacer p).state with
  | vacant => rw [writeConfig_vacant w v hs]; exact .configures w v hs
  | live => rw [writeConfig_refused w v (.inl hs)]; exact .none
  | draining => rw [writeConfig_refused w v (.inr (.inl hs))]; exact .none
  | sweeping => rw [writeConfig_refused w v (.inr (.inr hs))]; exact .none
  | staged => exact parked (.inl hs)
  | paused => exact parked (.inr hs)

theorem writeTickLen_effect (v : MgmtWord) (s : State) : RequestEffect s (writeTickLen v s).1 := by
  unfold writeTickLen
  dsimp only
  split
  · exact .none
  · rename_i hp
    split
    · rename_i hr
      exact .setsTickLen (Bool.eq_false_iff.mpr hp) hr
    · exact .none

theorem writeDefaultPacer_effect (v : MgmtWord) (s : State) : RequestEffect s (writeDefaultPacer v s).1 := by
  unfold writeDefaultPacer
  cases bindRequest v with
  | none => exact .setsDefault (fun _ h => nomatch h)
  | badPacer => exact .none
  | pacer p =>
    dsimp only
    split
    · rename_i hb
      exact .setsDefault (fun q h => by cases h; exact hb)
    · exact .none

theorem writeTagMap_effect (g : Tag) (v : MgmtWord) (s : State) : RequestEffect s (writeTagMap g v s).1 := by
  unfold writeTagMap
  cases bindRequest v with
  | none => exact .binds g (fun _ h => nomatch h)
  | badPacer => exact .none
  | pacer p =>
    dsimp only
    split
    · rename_i hb
      exact .binds g (fun q h => by cases h; exact hb)
    · exact .none

theorem writeManager_effect (g : Tag) (e : Fin 4) (v : MgmtWord) (s : State) :
    RequestEffect s (writeManager g e v s).1 := by
  unfold writeManager
  split
  · exact .denies g
  · split
    · exact .none
    · rename_i hv
      exact .setsManager (fun he => by simpa [he] using hv)

theorem writeWord_effect (g : Tag) (w : WindowWord) (v : MgmtWord) (s : State) :
    RequestEffect s (writeWord g w v s).1 := by
  cases w with
  | tickLen => exact writeTickLen_effect v s
  | respTimeout => exact .setsTimeout _
  | enables => exact .setsEnables _
  | defaultPacer => exact writeDefaultPacer_effect v s
  | command => exact .commands _ (judgeCommand_effect _ _ _ s)
  | manager e => exact writeManager_effect g e v s
  | counter c => exact .clears c
  | config p k => exact writeConfig_effect p k v s
  | tagMap t => exact writeTagMap_effect t v s
  | _ => exact .none

/-- Whatever a management request is, its judging leaves one of these effects (R145). -/
theorem judgeRequest_effect (pkt : Packet) (s : State) : RequestEffect s (judgeRequest pkt s).1 := by
  unfold judgeRequest
  cases reach s pkt.header with
  | refused st => exact .none
  | denied => exact .denies _
  | word w =>
    dsimp only
    split
    · cases w with
      | pop => exact .pops
      | _ => exact .none
    · exact writeWord_effect _ w _ s

/-- The agent's run over its queue keeps what dropping a posted write and taking a request keep (R143, R144). -/
theorem agentRun_induction {P : State → Prop} (drop : ∀ s, P s → P (dropMgmtPosted s))
    (take : ∀ pkt s, P s → P (takeRequest pkt s)) (l : List Packet) {s : State} (h : P s) : P (agentRun l s) := by
  induction l generalizing s with
  | nil => exact h
  | cons r rest ih =>
    unfold agentRun
    split
    · exact ih (drop s h)
    · exact take r s h

theorem agentLook_induction {P : State → Prop} (drop : ∀ s, P s → P (dropMgmtPosted s))
    (take : ∀ pkt s, P s → P (takeRequest pkt s)) {s : State} (h : P s) : P (agentLook s) := by
  unfold agentLook
  split
  · exact agentRun_induction drop take _ h
  · exact h

/-! ### What the guards of the events say -/

theorem ne_vacant_of_bindable {c : Pacer} (h : bindable c = true) : c.state ≠ .vacant := by
  intro hv
  simp [bindable, hv] at h

theorem judgeArrival_admitted {s : State} {h : Header} {p : PacerId} (ha : judgeArrival s h = .admitted p) :
    bindable (s.pacer p) = true ∧ (s.pacer p).qlen < (s.pacer p).cfg.queueLimit.toNat := by
  unfold judgeArrival at ha
  split at ha
  · cases ha
  split at ha
  · cases ha
  split at ha
  · cases ha
  split at ha
  · cases ha
  rename_i hb
  split at ha
  · rename_i hq
    cases ha
    exact ⟨by simpa using hb, hq⟩
  · cases ha

theorem responseFate_matched {s : State} {pkt : Packet} {n : EntryId} (h : responseFate s pkt = .matched n) :
    (s.entry n).state = .busy := by
  unfold responseFate at h
  split at h
  · dsimp only at h
    split at h
    · cases h
    · split at h <;> cases h
    · split at h <;> cases h
    · rename_i hb
      split at h
      · cases h
        exact hb
      · cases h
  · cases h

theorem responseFate_late {s : State} {pkt : Packet} {n : EntryId} (h : responseFate s pkt = .late n) :
    (s.entry n).state = .quarantine ∨ (s.entry n).state = .closing := by
  unfold responseFate at h
  split at h
  · dsimp only at h
    split at h
    · cases h
    · rename_i hq
      split at h
      · cases h
        exact .inl hq
      · cases h
    · rename_i hc
      split at h
      · cases h
        exact .inr hc
      · cases h
    · split at h <;> cases h
  · cases h

theorem deadlineReached_busy {s : State} {e : Entry} (h : deadlineReached s e = true) : e.state = .busy := by
  simp only [deadlineReached, Bool.and_eq_true, beq_iff_eq] at h
  exact h.1

theorem quarantineReached_state {s : State} {e : Entry} (h : quarantineReached s e = true) : e.state = .quarantine := by
  simp only [quarantineReached, Bool.and_eq_true, beq_iff_eq] at h
  exact h.1

theorem bestOf_mem {s : State} {p : PacerId} (l : List PacerId) (h : bestOf s l = some p) : p ∈ l := by
  induction l with
  | nil => cases h
  | cons q rest ih =>
    unfold bestOf at h
    cases hb : bestOf s rest with
    | none =>
      rw [hb] at h
      cases h
      exact List.mem_cons_self
    | some r =>
      rw [hb] at h
      dsimp only at h
      split at h
      · cases h
        exact List.mem_cons_of_mem q (ih hb)
      · cases h
        exact List.mem_cons_self

/-- The winner stands on the calendar (R52). -/
theorem winner_mem {s : State} {p : PacerId} (h : winner s = some p) : p ∈ s.calendar :=
  (List.mem_filter.mp (bestOf_mem _ h)).1

theorem lowestFree_free {s : State} {n : EntryId} (h : s.lowestFree = some n) : (s.entry n).state = .free := by
  have := List.find?_some h
  simpa using this

/-! ### What an operation leaves unchanged: the ports -/

/-- Only the ports, their credit counts and the Notice Queue change. -/
def PortFrame (s t : State) : Prop :=
  { t with
    linkI := s.linkI, linkT := s.linkT, creditsI := s.creditsI, creditsT := s.creditsT, notices := s.notices } = s

theorem PortFrame.trans {s t u : State} (f : PortFrame s t) (g : PortFrame t u) : PortFrame s u := by
  have h := congrArg
    (fun x : State =>
      { x with
        linkI := s.linkI, linkT := s.linkT, creditsI := s.creditsI, creditsT := s.creditsT, notices := s.notices }) g
  exact h.trans f

/-- A frame of the ports says of each other field that it is unchanged. -/
theorem PortFrame.fields {s t : State} (f : PortFrame s t) :
    t.pins = s.pins ∧ t.clock = s.clock ∧ t.tagMap = s.tagMap ∧ t.defaultPacer = s.defaultPacer ∧
    t.queues = s.queues ∧ t.pacers = s.pacers ∧ t.calendar = s.calendar ∧ t.outstanding = s.outstanding ∧
    t.responses = s.responses ∧ t.replies = s.replies ∧ t.mgmtQueue = s.mgmtQueue ∧ t.agent = s.agent ∧
    t.sweeper = s.sweeper ∧ t.draws = s.draws ∧ t.pending = s.pending := by
  unfold PortFrame at f
  rw [← f]
  simp

theorem setLink_frame (s : State) (p : PortId) (l : Link) : PortFrame s (s.setLink p l) := by cases p <;> rfl

theorem sendInit_frame (p : PortId) (s : State) : PortFrame s (sendInit p s) := by cases p <;> rfl

theorem enterInitWait_frame (p : PortId) (s : State) : PortFrame s (enterInitWait p s) :=
  (setLink_frame s p _).trans (sendInit_frame p _)

theorem creditSendOnce_frame (which : CreditReturn) (s : State) : PortFrame s (creditSendOnce which s) := by
  cases which <;> (unfold creditSendOnce; dsimp only; split <;> rfl)

theorem creditSendAll_frame (which : CreditReturn) (fuel : Nat) (s : State) :
    PortFrame s (creditSendAll which fuel s) := by
  induction fuel generalizing s with
  | zero => rfl
  | succ n ih => exact (creditSendOnce_frame which s).trans (ih _)

theorem sendReturns_frame (p : PortId) (s : State) : PortFrame s (sendReturns p s) := by
  cases p with
  | i => exact (creditSendAll_frame .traffic _ s).trans (creditSendAll_frame .mgmt _ _)
  | t => exact creditSendAll_frame .response _ s

theorem sendPendingAlert_frame (p : PortId) (s : State) : PortFrame s (sendPendingAlert p s) := by
  cases p with
  | i => unfold sendPendingAlert; dsimp only; split <;> rfl
  | t => rfl

theorem recordGrant_frame (p : PortId) (n : Nat) (s : State) : PortFrame s (recordGrant p n s) := by cases p <;> rfl

theorem takeCredit_frame (p : PortId) (n : Nat) (s : State) : PortFrame s (takeCredit p n s) := by cases p <;> rfl

theorem bringUp_frame (p : PortId) (h : Header) (s : State) : PortFrame s (bringUp p h s) :=
  (((recordGrant_frame p _ s).trans (setLink_frame _ p _)).trans (sendReturns_frame p _)).trans
    (sendPendingAlert_frame p _)

theorem hand_frame (p : PortId) (pkt : Packet) (s : State) : PortFrame s (s.hand p pkt) := by cases p <;> rfl

theorem resetAlert_frame (s : State) : PortFrame s (resetAlert s) := by
  unfold resetAlert
  split <;> rfl

/-- A fault sequence keeps what port frames and link resets keep (R168). -/
theorem faultSequence_induction {P : State → Prop} (port : ∀ s t, PortFrame s t → P s → P t)
    (reset : ∀ p s, P s → P (linkReset p s)) (p : PortId) {s : State} (h : P s) : P (faultSequence p s) :=
  reset p _ (port _ _ ((setLink_frame s p _).trans (hand_frame p resetPacket _)) h)

/-- So does the taking of a RESET (R169). -/
theorem takeReset_induction {P : State → Prop} (port : ∀ s t, PortFrame s t → P s → P t)
    (reset : ∀ p s, P s → P (linkReset p s)) (p : PortId) {s : State} (h : P s) : P (takeReset p s) := by
  unfold takeReset
  split
  · exact h
  · exact reset p s h
  · exact port _ _ (enterInitWait_frame p _) (reset p _ (port _ _ (setLink_frame s p _) h))
  · exact port _ _ (enterInitWait_frame p _) (reset p s h)

/-! ### What an operation leaves unchanged: the other blocks -/

theorem NoticeFrame.port {s t : State} (f : NoticeFrame s t) : PortFrame s t := by
  have h := f.rest
  unfold PortFrame
  rw [← h]

theorem NoticeFrame.pacers {s t : State} (f : NoticeFrame s t) : t.pacers = s.pacers := by
  have h := congrArg State.pacers f.rest
  exact h

theorem NoticeFrame.entry {s t : State} (f : NoticeFrame s t) (n : EntryId) : t.entry n = s.entry n := by
  have h := congrArg (fun x : State => x.entry n) f.rest
  exact h

theorem AdaptFrame.entry {p : PacerId} {s t : State} (f : AdaptFrame p s t) (n : EntryId) : t.entry n = s.entry n := by
  have h := congrArg (fun x : State => x.entry n) f.rest
  exact h

theorem AdaptFrame.queue {p : PacerId} {s t : State} (f : AdaptFrame p s t) (q : PacerId) : t.queue q = s.queue q := by
  have h := congrArg (fun x : State => x.queue q) f.rest
  exact h

theorem settleCalendar_pacers (p : PacerId) (s : State) : (settleCalendar p s).pacers = s.pacers := by
  unfold settleCalendar
  split <;> rfl

theorem settleCalendar_pacer (p q : PacerId) (s : State) : (settleCalendar p s).pacer q = s.pacer q := by
  simp only [State.pacer, settleCalendar_pacers]

theorem drainCheck_queues (p : PacerId) (s : State) : (drainCheck p s).queues = s.queues := by
  have h := congrArg State.queues (drainCheck_frame p s)
  exact h

theorem drainCheck_calendar (p : PacerId) (s : State) : (drainCheck p s).calendar = s.calendar := by
  have h := congrArg State.calendar (drainCheck_frame p s)
  exact h

theorem drainCheck_outstanding (p : PacerId) (s : State) : (drainCheck p s).outstanding = s.outstanding := by
  have h := congrArg State.outstanding (drainCheck_frame p s)
  exact h

theorem drainCheck_replies (p : PacerId) (s : State) : (drainCheck p s).replies = s.replies := by
  have h := congrArg State.replies (drainCheck_frame p s)
  exact h

theorem startSweep_pacers (s : State) : (startSweep s).pacers = s.pacers := by
  have h := congrArg State.pacers (startSweep_frame s)
  exact h

theorem removeHead_pacer_self {p : PacerId} {s : State} {x : HoldSlot} {rest : List HoldSlot}
    (hx : s.queue p = x :: rest) : (removeHead p s).pacer p = { s.pacer p with qlen := (s.pacer p).qlen - 1 } := by
  rw [removeHead_cons p s x rest hx]
  exact tableGet_tableSet_self _ _ _

theorem removeHead_queue_self {p : PacerId} {s : State} {x : HoldSlot} {rest : List HoldSlot}
    (hx : s.queue p = x :: rest) : (removeHead p s).queue p = rest := by
  rw [removeHead_cons p s x rest hx]
  exact tableGet_tableSet_self _ _ _

theorem removeHead_replies (p : PacerId) (s : State) : (removeHead p s).replies = s.replies := by
  cases hx : s.queue p with
  | nil => rw [removeHead_nil p s hx]
  | cons x rest => rw [removeHead_cons p s x rest hx]

theorem removeHead_calendar (p : PacerId) (s : State) : (removeHead p s).calendar = s.calendar := by
  cases hx : s.queue p with
  | nil => rw [removeHead_nil p s hx]
  | cons x rest => rw [removeHead_cons p s x rest hx]

theorem withdrawCrossing_state (p : PacerId) (s : State) :
    ((withdrawCrossing p s).pacer p).state = (s.pacer p).state := by
  unfold withdrawCrossing
  split
  · simp [State.removeCrossing_eq, State.pacer, State.setPacer]
  · rfl

theorem writeEnables_pacers (v : BitVec 8) (s : State) : (writeEnables v s).pacers = s.pacers := by
  unfold writeEnables
  dsimp only
  split
  · rfl
  · split
    · exact (State.alertDue_frame _).pacers
    · rfl

theorem dropMgmtPosted_pacers (s : State) : (dropMgmtPosted s).pacers = s.pacers := by
  unfold dropMgmtPosted freeMgmtHead
  split <;> simp

theorem dropResponses_pacers (s : State) : (dropResponses s).pacers = s.pacers := by
  simp [dropResponses]

theorem expireEntry_pacers (n : EntryId) (s : State) : (expireEntry n s).pacers = s.pacers := by
  unfold expireEntry
  dsimp only
  split <;> rfl

end Sys2Proof.Machine
end

section
/-!
PROOFS. Every step keeps the context law (R5, R20, R21).
-/

namespace Sys2Proof.Machine

/-! ### One pacer's context -/

/-- A context that keeps its configuration, does not leave VACANT and whose queue has not grown is lawful again when its
SPACING stands between the bounds once more. -/
theorem Pacer.Lawful.move {c d : Pacer} (h : c.Lawful) (state : d.state ≠ .vacant → c.state ≠ .vacant)
    (cfg : d.cfg = c.cfg) (qlen : d.qlen ≤ c.qlen)
    (spacing : LegalConfig c.cfg → c.cfg.spaceMin.toNat ≤ c.spacing.toNat → c.spacing.toNat ≤ c.cfg.spaceMax.toNat →
      c.cfg.spaceMin.toNat ≤ d.spacing.toNat ∧ d.spacing.toNat ≤ c.cfg.spaceMax.toNat) : d.Lawful := by
  have between (hs : d.state ≠ .vacant) := spacing ((legal_iff _).mp (h.legal (state hs))) (h.spacingLow (state hs))
    (h.spacingHigh (state hs))
  exact
    { legal := fun hs => by rw [cfg]; exact h.legal (state hs)
      spacingLow := fun hs => by rw [cfg]; exact (between hs).1
      spacingHigh := fun hs => by rw [cfg]; exact (between hs).2
      queueLimit := fun hs => by rw [cfg]; exact qlen.trans (h.queueLimit (state hs)) }

/-- The same with SPACING as it was. -/
theorem Pacer.Lawful.keep {c d : Pacer} (h : c.Lawful) (state : d.state ≠ .vacant → c.state ≠ .vacant)
    (cfg : d.cfg = c.cfg) (spacing : d.spacing = c.spacing) (qlen : d.qlen ≤ c.qlen) : d.Lawful :=
  h.move state cfg qlen (fun _ lo hi => by rw [spacing]; exact ⟨lo, hi⟩)

theorem Pacer.Lawful.of_vacant {c : Pacer} (h : c.state = .vacant) : c.Lawful :=
  ⟨fun hn => absurd h hn, fun hn => absurd h hn, fun hn => absurd h hn, fun hn => absurd h hn⟩

theorem LegalConfig.bounds {c : PacerConfig} (h : LegalConfig c) : c.spaceMin.toNat ≤ c.spaceMax.toNat :=
  h.order.1.trans h.order.2

/-- The increase step ends at SPACE_MIN or above (R23). -/
theorem increaseStep_lawful {c : Pacer} (h : c.Lawful) : (increaseStep c).Lawful := by
  refine h.move id rfl le_rfl (fun hl lo hi => ?_)
  have hb := hl.bounds
  simp only [increaseStep]
  split
  · exact ⟨le_rfl, hb⟩
  · have := c.spacing.isLt
    rw [BitVec.toNat_ofNat, Nat.mod_eq_of_lt (by omega)]
    omega

/-- The decrease step ends at SPACE_MAX or below (R24). -/
theorem decreaseStep_lawful {c : Pacer} (h : c.Lawful) : (decreaseStep c).Lawful := by
  refine h.move id rfl le_rfl (fun hl lo hi => ?_)
  have hb := hl.bounds
  simp only [decreaseStep]
  split
  · exact ⟨hb, le_rfl⟩
  · have := c.cfg.spaceMax.isLt
    rw [BitVec.toNat_ofNat, Nat.mod_eq_of_lt (by omega)]
    omega

theorem windowRestart_lawful {c : Pacer} (h : c.Lawful) : (windowRestart c).Lawful := h.keep id rfl rfl le_rfl

theorem windowVerdict_lawful {c : Pacer} (h : c.Lawful) : (windowVerdict c).Lawful := by
  unfold windowVerdict
  split
  · exact decreaseStep_lawful h
  · split
    · exact increaseStep_lawful h
    · exact h

theorem haltPacer_lawful {c : Pacer} (h : c.Lawful) : (haltPacer c).Lawful :=
  h.move id rfl le_rfl (fun hl _ _ => ⟨hl.bounds, le_rfl⟩)

theorem clamped_lawful {c : Pacer} (h : c.Lawful) (v : BitVec 16) :
    Pacer.Lawful { c with spacing := clampSpacing c.cfg v } :=
  h.move id rfl le_rfl (fun hl _ _ => clampSpacing_between c.cfg v hl.bounds)

/-- STAGE checks the configuration and takes SPACE_START (R7). -/
theorem stagedPacer_lawful {c : Pacer} (h : legal c.cfg = true) : (stagedPacer c).Lawful := by
  have hl := (legal_iff _).mp h
  exact ⟨fun _ => h, fun _ => hl.order.1, fun _ => hl.order.2, fun _ => Nat.zero_le _⟩

/-- An accepted write keeps SPACING between the bounds it leaves (R19). -/
theorem spacingAfterWrite_between {c : Pacer} {w : Fin 7} {v : MgmtWord}
    (hl : LegalConfig (configWithWord c.cfg w v)) (lo : c.cfg.spaceMin.toNat ≤ c.spacing.toNat)
    (hi : c.spacing.toNat ≤ c.cfg.spaceMax.toNat) :
    (configWithWord c.cfg w v).spaceMin.toNat ≤ (spacingAfterWrite c (configWithWord c.cfg w v) w).toNat ∧
      (spacingAfterWrite c (configWithWord c.cfg w v) w).toNat ≤ (configWithWord c.cfg w v).spaceMax.toNat := by
  unfold spacingAfterWrite
  split
  · exact clampSpacing_between _ _ hl.bounds
  · rename_i h01
    split
    · exact hl.order
    · have hmin : (configWithWord c.cfg w v).spaceMin = c.cfg.spaceMin := by
        fin_cases w <;> simp_all [configWithWord]
      have hmax : (configWithWord c.cfg w v).spaceMax = c.cfg.spaceMax := by
        fin_cases w <;> simp_all [configWithWord]
      rw [hmin, hmax]
      exact ⟨lo, hi⟩

/-- An accepted write leaves a legal configuration, and QUEUE_LIMIT no smaller than QLEN (R18, R19). -/
theorem rewritten_lawful {c : Pacer} {w : Fin 7} {v : MgmtWord} (h : c.Lawful) (hs : c.state ≠ .vacant)
    (hl : legal (configWithWord c.cfg w v) = true) (hu : underOccupied c (configWithWord c.cfg w v) w = false) :
    (rewritten c w v).Lawful := by
  have between := spacingAfterWrite_between (v := v) (w := w) ((legal_iff _).mp hl) (h.spacingLow hs) (h.spacingHigh hs)
  refine ⟨fun _ => hl, fun _ => between.1, fun _ => between.2, fun _ => ?_⟩
  have hq := h.queueLimit hs
  by_cases h6 : w = 6
  · have hn := mt (underOccupied_iff c (configWithWord c.cfg w v) w).mpr (by simp [hu])
    simp only [not_or, not_and, not_lt] at hn
    exact (hn.1 h6).2
  · have hlim : (configWithWord c.cfg w v).queueLimit = c.cfg.queueLimit := by
      fin_cases w <;> simp_all [configWithWord]
    simp only [rewritten, hlim]
    exact hq

/-! ### The operations -/

/-- The law speaks of the pacer table alone. -/
theorem ContextLaw.of_pacers {s t : State} (h : ContextLaw s) (hp : t.pacers = s.pacers) : ContextLaw t := fun q => by
  simpa only [State.pacer, hp] using h q

theorem ContextLaw.setPacer {s : State} {p : PacerId} {c : Pacer} (h : ContextLaw s) (hc : c.Lawful) :
    ContextLaw (s.setPacer p c) := fun q => by
  rw [State.setPacer_pacer]
  split
  · exact hc
  · exact h q

/-- One pacer's context is replaced, and whatever is no part of the pacer table. -/
theorem ContextLaw.of_setPacer {s t : State} {p : PacerId} {c : Pacer} (h : ContextLaw s)
    (ht : t.pacers = tableSet s.pacers p c) (hc : c.Lawful) : ContextLaw t :=
  (h.setPacer hc).of_pacers ht

theorem ContextLaw.ofNotice {s t : State} (h : ContextLaw s) (f : NoticeFrame s t) : ContextLaw t :=
  h.of_pacers f.pacers

theorem crossingCheck_contextLaw {s : State} (p : PacerId) (h : ContextLaw s) : ContextLaw (crossingCheck p s) := by
  have f := crossingCheck_frame p s
  intro q
  rcases eq_or_ne q p with rfl | hq
  · obtain ⟨slow, pending, ho⟩ := f.own
    rw [ho]
    exact (h q).keep id rfl rfl le_rfl
  · rw [f.others q hq]
    exact h q

theorem removeCrossing_contextLaw {s : State} (p : PacerId) (h : ContextLaw s) : ContextLaw (s.removeCrossing p) := by
  rw [State.removeCrossing_eq]
  exact h.of_setPacer rfl ((h p).keep id rfl rfl le_rfl)

theorem withdrawCrossing_contextLaw {s : State} (p : PacerId) (h : ContextLaw s) :
    ContextLaw (withdrawCrossing p s) := by
  unfold withdrawCrossing
  split
  · exact removeCrossing_contextLaw p h
  · exact h

theorem windowResponse_contextLaw {s : State} (p : PacerId) (marked : Bool) (h : ContextLaw s) :
    ContextLaw (windowResponse p marked s) := by
  have ht : (tally marked (s.pacer p)).Lawful := (h p).keep id rfl rfl le_rfl
  unfold windowResponse
  dsimp only
  split
  · exact crossingCheck_contextLaw p (h.setPacer (windowRestart_lawful (windowVerdict_lawful ht)))
  · exact h.setPacer ht

theorem countedResponse_contextLaw {s : State} (p : PacerId) (m : Pressure) (h : ContextLaw s) :
    ContextLaw (countedResponse p m s) := by
  unfold countedResponse
  split
  · cases m with
    | clear => exact windowResponse_contextLaw p false h
    | light => exact windowResponse_contextLaw p true h
    | heavy => exact crossingCheck_contextLaw p (h.setPacer (windowRestart_lawful (decreaseStep_lawful (h p))))
    | halt => exact crossingCheck_contextLaw p (h.setPacer (haltPacer_lawful (h p)))
  · exact h

theorem timeoutHalt_contextLaw {s : State} (p : PacerId) (h : ContextLaw s) : ContextLaw (timeoutHalt p s) := by
  unfold timeoutHalt
  split
  · exact crossingCheck_contextLaw p (h.setPacer (haltPacer_lawful (h p)))
  · exact h

theorem idleRule_contextLaw {s : State} (p : PacerId) (h : ContextLaw s) : ContextLaw (idleRule p s) := by
  unfold idleRule
  split
  · exact crossingCheck_contextLaw p (h.setPacer ((h p).move id rfl le_rfl (fun hl _ _ => hl.order)))
  · exact h

theorem settleCalendar_contextLaw {s : State} (p : PacerId) (h : ContextLaw s) : ContextLaw (settleCalendar p s) :=
  h.of_pacers (settleCalendar_pacers p s)

theorem drainCheck_contextLaw {s : State} (p : PacerId) (h : ContextLaw s) : ContextLaw (drainCheck p s) := by
  intro q
  rw [drainCheck_pacer]
  split
  · rename_i hd
    have hs : (s.pacer p).state = .draining := ((drained_iff _).mp hd.2).1
    exact (h p).keep (fun _ => by rw [hs]; decide) rfl rfl le_rfl
  · exact h q

theorem drainCheckAll_contextLaw (l : List PacerId) {s : State} (h : ContextLaw s) :
    ContextLaw (drainCheckAll l s) := by
  induction l generalizing s with
  | nil => exact h
  | cons p rest ih => exact ih (drainCheck_contextLaw p h)

theorem completeDrains_contextLaw {s : State} (h : ContextLaw s) : ContextLaw (completeDrains s) :=
  drainCheckAll_contextLaw _ (h.of_pacers rfl)

theorem flightFell_contextLaw {s : State} (p : PacerId) (h : ContextLaw s) : ContextLaw (flightFell p s) :=
  drainCheck_contextLaw p (settleCalendar_contextLaw p h)

theorem removeHead_contextLaw {s : State} (p : PacerId) (h : ContextLaw s) : ContextLaw (removeHead p s) := by
  cases hq : s.queue p with
  | nil => rwa [removeHead_nil p s hq]
  | cons x rest =>
    rw [removeHead_cons p s x rest hq]
    exact h.of_setPacer rfl ((h p).keep id rfl rfl (Nat.sub_le _ _))

theorem discardFrom_contextLaw (p : PacerId) (l : List HoldSlot) {s : State} (h : ContextLaw s) :
    ContextLaw (discardFrom p l s) := by
  induction l generalizing s with
  | nil => exact h
  | cons x rest ih =>
    unfold discardFrom
    split
    · exact ih ((removeHead_contextLaw p h).of_pacers rfl)
    · split
      · exact h
      · exact h.of_pacers rfl

theorem processDiscard_contextLaw {s : State} (p : PacerId) (h : ContextLaw s) : ContextLaw (processDiscard p s) :=
  drainCheck_contextLaw p (discardFrom_contextLaw p _ h)

/-! ### Commands and management requests -/

theorem drainingPacer_lawful {c : Pacer} (m : RetireMode) (h : c.Lawful) (hs : c.state ≠ .vacant) :
    (drainingPacer m c).Lawful := h.keep (fun _ => hs) rfl rfl le_rfl

theorem CommandEffect.contextLaw {s t : State} (e : CommandEffect s t) (h : ContextLaw s) : ContextLaw t := by
  have retire {p : PacerId} (m : RetireMode) (hb : bindable (s.pacer p) = true) :
      ContextLaw ((withdrawCrossing p s).modPacer p (drainingPacer m)) := by
    have hw := withdrawCrossing_contextLaw p h
    refine hw.setPacer (drainingPacer_lawful m (hw p) ?_)
    rw [withdrawCrossing_state]
    exact ne_vacant_of_bindable hb
  cases e with
  | none => exact h
  | rearms =>
    unfold rearmAlert
    dsimp only
    split
    · exact (h.of_pacers rfl).ofNotice (State.alertDue_frame _)
    · exact h.of_pacers rfl
  | stages _ hl => exact h.setPacer (stagedPacer_lawful hl)
  | @starts p hs =>
    refine settleCalendar_contextLaw p (crossingCheck_contextLaw p (h.setPacer ?_))
    exact (h p).move (fun _ => by rw [hs]; decide) rfl le_rfl (fun hl _ _ => hl.order)
  | @pauses p hs =>
    exact h.of_setPacer rfl ((h p).keep (fun _ => by rw [hs]; decide) rfl rfl le_rfl)
  | @resumes p hs =>
    refine settleCalendar_contextLaw p (h.setPacer ?_)
    exact (h p).move (fun _ => by rw [hs]; decide) rfl le_rfl (fun hl _ _ => clampSpacing_between _ _ hl.bounds)
  | @flushes p hb => exact drainCheck_contextLaw p (settleCalendar_contextLaw p (retire .flush hb))
  | @discards p hb => exact processDiscard_contextLaw p ((retire .discard hb).of_pacers rfl)
  | @turns p hs _ =>
    refine processDiscard_contextLaw p (h.of_setPacer rfl (drainingPacer_lawful .discard (h p) ?_))
    rw [hs]; decide
  | @spaces p v hs => exact h.setPacer (clamped_lawful (h p) v)
  | @respaces p v hs => exact crossingCheck_contextLaw p (h.setPacer (windowRestart_lawful (clamped_lawful (h p) v)))

theorem popNotice_contextLaw {s : State} (h : ContextLaw s) : ContextLaw (popNotice s) := by
  unfold popNotice
  split
  · exact h.of_pacers rfl
  · dsimp only
    split
    · rename_i p _
      exact (h.of_pacers rfl).setPacer ((h p).keep id rfl rfl le_rfl)
    · exact h.of_pacers rfl

theorem RequestEffect.contextLaw {s t : State} (e : RequestEffect s t) (h : ContextLaw s) : ContextLaw t := by
  have rewrite {p : PacerId} {w : Fin 7} {v : MgmtWord}
      (hs : (s.pacer p).state = .staged ∨ (s.pacer p).state = .paused)
      (hl : legal (configWithWord (s.pacer p).cfg w v) = true)
      (hu : underOccupied (s.pacer p) (configWithWord (s.pacer p).cfg w v) w = false) :
      ContextLaw (s.setPacer p (rewritten (s.pacer p) w v)) :=
    h.setPacer (rewritten_lawful (h p) (by rcases hs with hs | hs <;> rw [hs] <;> decide) hl hu)
  cases e with
  | denies g => exact (h.of_pacers (t := s.bump .denied) rfl).ofNotice (State.plainNotice_frame _ _)
  | pops => exact popNotice_contextLaw h
  | setsEnables x => exact h.of_pacers (writeEnables_pacers x s)
  | configures w v hs => exact h.setPacer (.of_vacant hs)
  | rewrites w v hs hl hu => exact rewrite hs hl hu
  | @rewritesAndChecks p w v hs hl hu => exact crossingCheck_contextLaw p (rewrite (.inr hs) hl hu)
  | commands last he => exact (he.contextLaw h).of_pacers rfl
  | _ => exact h.of_pacers rfl

theorem takeRequest_contextLaw (pkt : Packet) (s : State) (h : ContextLaw s) : ContextLaw (takeRequest pkt s) :=
  ((judgeRequest_effect pkt s).contextLaw h).of_pacers rfl

theorem agentLook_contextLaw {s : State} (h : ContextLaw s) : ContextLaw (agentLook s) :=
  agentLook_induction (fun s hs => hs.of_pacers (dropMgmtPosted_pacers s)) takeRequest_contextLaw h

/-! ### The events -/

/-- An admitted request finds QLEN below QUEUE_LIMIT, which is how R21 is kept. -/
theorem enqueue_contextLaw {s : State} {p : PacerId} (pkt : Packet) (h : ContextLaw s)
    (hr : (s.pacer p).qlen < (s.pacer p).cfg.queueLimit.toNat) : ContextLaw (enqueue p pkt s) := by
  have hj : ContextLaw (joinQueue p pkt s) :=
    ContextLaw.setPacer (h.of_pacers rfl) ⟨(h p).legal, (h p).spacingLow, (h p).spacingHigh, fun _ => hr⟩
  unfold enqueue
  dsimp only
  split
  · exact hj.of_setPacer rfl ((hj p).keep id rfl rfl le_rfl)
  · exact hj

theorem countRefusal_contextLaw {s : State} (p : Option PacerId) (h : ContextLaw s) :
    ContextLaw (countRefusal p s) := by
  cases p with
  | none => exact h
  | some p => exact h.setPacer ((h p).keep id rfl rfl le_rfl)

theorem refuseArrival_contextLaw {s : State} (pkt : Packet) (cause : RefusalCause) (p : Option PacerId)
    (h : ContextLaw s) : ContextLaw (refuseArrival pkt cause p s) := by
  have hc : ContextLaw (countRefusal p (s.bump cause.counter)) := countRefusal_contextLaw p (h.of_pacers rfl)
  unfold refuseArrival
  dsimp only
  split
  · exact hc.of_pacers (by simp)
  · exact hc.of_pacers rfl

theorem intake_contextLaw {s : State} (pkt : Packet) (h : ContextLaw s) : ContextLaw (intake pkt s) := by
  unfold intake
  cases ha : judgeArrival s pkt.header with
  | admitted p => exact enqueue_contextLaw pkt h (judgeArrival_admitted ha).2
  | refused cause p => exact refuseArrival_contextLaw pkt cause p h

theorem matchedResponse_contextLaw {s : State} (pkt : Packet) (n : EntryId) (h : ContextLaw s) :
    ContextLaw (matchedResponse pkt n s) := by
  have hc := countedResponse_contextLaw (s.entry n).pacer (Pressure.ofCode pkt.header.pressure) h
  have hl : ContextLaw ((lowerFlight (s.entry n).pacer (countedResponse (s.entry n).pacer
      (Pressure.ofCode pkt.header.pressure) s)).setEntry n (releaseEntry (s.entry n))) :=
    hc.of_setPacer rfl ((hc (s.entry n).pacer).keep id rfl rfl le_rfl)
  unfold matchedResponse
  refine flightFell_contextLaw _ ?_
  split
  · exact hl.of_pacers (by simp)
  · exact hl.of_pacers rfl

theorem takeResponse_contextLaw {s : State} (pkt : Packet) (h : ContextLaw s) : ContextLaw (takeResponse pkt s) := by
  unfold takeResponse
  cases responseFate s pkt with
  | stale => exact h.of_pacers (by simp)
  | late n => exact h.of_pacers (by simp)
  | mismatch n => exact (h.of_pacers (by simp)).ofNotice (State.plainNotice_frame _ _)
  | matched n => exact matchedResponse_contextLaw pkt n h

theorem expire_contextLaw {s : State} (n : EntryId) (h : ContextLaw s) : ContextLaw (expire n s) := by
  have hl : ContextLaw (lowerFlight (s.entry n).pacer s) := h.setPacer ((h _).keep id rfl rfl le_rfl)
  have ht := timeoutHalt_contextLaw (s.entry n).pacer hl
  refine flightFell_contextLaw _ (ContextLaw.of_pacers ?_ (expireEntry_pacers n _))
  exact ContextLaw.ofNotice (s := State.bump _ .timeouts) (ht.of_pacers rfl) (State.plainNotice_frame _ _)

theorem sendRequest_contextLaw {s : State} (p : PacerId) (req : Packet) (h : ContextLaw s) :
    ContextLaw (sendRequest p req s) := by
  unfold sendRequest
  split
  · exact h.of_pacers rfl
  · split
    · exact h.of_setPacer rfl ((h p).keep id rfl rfl le_rfl)
    · exact h

theorem depart_contextLaw {s : State} (p : PacerId) (req : Packet) (h : ContextLaw s) :
    ContextLaw (depart p req s) := by
  have hi : ContextLaw (if (s.pacer p).state = .live then idleRule p s else s) := by
    split
    · exact idleRule_contextLaw p h
    · exact h
  have hs := sendRequest_contextLaw p req (removeHead_contextLaw p hi)
  have hc : ContextLaw (consumeRequestCredit (sendRequest p req (removeHead p _))) := hs.of_pacers rfl
  exact drainCheck_contextLaw p
    (settleCalendar_contextLaw p (hc.setPacer ((hc p).keep id rfl rfl le_rfl)))

/-- At the end of its sweep the pacer is VACANT, of which the law asks nothing. -/
theorem endSweep_contextLaw {s : State} (p : PacerId) (h : ContextLaw s) : ContextLaw (endSweep p s) := by
  have hv : ContextLaw (s.modPacer p (fun c => { c with state := .vacant })) := h.setPacer (.of_vacant rfl)
  exact ((hv.ofNotice (State.plainNotice_frame _ _)).of_pacers rfl).of_pacers (startSweep_pacers _)

theorem visitEntry_contextLaw {s : State} (p : PacerId) (k : Tag) (h : ContextLaw s) :
    ContextLaw (visitEntry p k s) := by
  unfold visitEntry
  dsimp only
  split
  · exact endSweep_contextLaw p (h.of_pacers rfl)
  · exact h.of_pacers rfl

theorem releaseAborted_contextLaw {s : State} (p : PacerId) (h : ContextLaw s) : ContextLaw (releaseAborted p s) := by
  have hd : ContextLaw (drainCheck p ((removeHead p s).bump .aborted)) :=
    drainCheck_contextLaw p ((removeHead_contextLaw p h).of_pacers rfl)
  unfold releaseAborted
  dsimp only
  split
  · exact processDiscard_contextLaw p hd
  · exact hd

theorem releaseMgmt_contextLaw {s : State} (h : ContextLaw s) : ContextLaw (releaseMgmt s) := by
  refine agentLook_contextLaw (h.of_pacers ?_)
  unfold freeMgmtHead
  split <;> simp

theorem placeItem_contextLaw {s : State} (i : ReplyItem) (rest : List ReplyItem) (pkt : Packet) (h : ContextLaw s) :
    ContextLaw (placeItem i rest pkt s) := by
  unfold placeItem releaseResource
  cases i with
  | refusal req cause p => exact h.of_pacers (by simp)
  | aborted p => exact releaseAborted_contextLaw p (h.of_pacers rfl)
  | givenUp cause n => exact h.of_pacers rfl
  | mgmt st d b => exact releaseMgmt_contextLaw (h.of_pacers rfl)

/-! ### The ports and link resets -/

theorem ContextLaw.ofPort {s t : State} (h : ContextLaw s) (f : PortFrame s t) : ContextLaw t := by
  obtain ⟨-, -, -, -, -, hp, -⟩ := f.fields
  exact h.of_pacers hp

theorem ContextLaw.map {s t : State} {f : Pacer → Pacer} (h : ContextLaw s) (ht : t.pacers = s.pacers.map f)
    (hf : ∀ c : Pacer, c.Lawful → (f c).Lawful) : ContextLaw t := fun q => by
  rw [State.pacer, ht, tableGet_map]
  exact hf _ (h q)

theorem resetPortI_contextLaw {s : State} (h : ContextLaw s) : ContextLaw (resetPortI s) := by
  refine ContextLaw.ofNotice ?_ (State.plainNotice_frame _ _)
  exact h.of_pacers rfl

theorem resetPortT_contextLaw {s : State} (h : ContextLaw s) : ContextLaw (resetPortT s) := by
  refine ContextLaw.ofNotice ?_ (State.plainNotice_frame _ _)
  exact h.of_pacers rfl

theorem linkResetI_contextLaw {s : State} (h : ContextLaw s) : ContextLaw (linkResetI s) := by
  have hq : ContextLaw (dropQueues (resetPortI s)) :=
    (resetPortI_contextLaw h).map rfl (fun c hc => hc.keep id rfl rfl (Nat.zero_le _))
  refine (completeDrains_contextLaw ?_).ofPort (resetAlert_frame _)
  exact (hq.of_pacers rfl).of_pacers (dropResponses_pacers _)

theorem linkResetT_contextLaw {s : State} (h : ContextLaw s) : ContextLaw (linkResetT s) :=
  completeDrains_contextLaw
    ((resetPortT_contextLaw h).map rfl (fun c hc => hc.keep (d := { c with flight := 0 }) id rfl rfl le_rfl))

theorem linkReset_contextLaw {s : State} (p : PortId) (h : ContextLaw s) : ContextLaw (linkReset p s) := by
  cases p with
  | i => exact linkResetI_contextLaw h
  | t => exact linkResetT_contextLaw h

/-! ### The step -/

theorem Event.contextLaw {s t : State} (e : Event s t) (h : ContextLaw s) : ContextLaw t := by
  have port (s t : State) (f : PortFrame s t) (hs : ContextLaw s) : ContextLaw t := hs.ofPort f
  cases e with
  | powersOn w g =>
    exact (((powerOn_contextLaw true w g).ofPort (enterInitWait_frame .i _)).ofPort
      (enterInitWait_frame .t _)).of_pacers rfl
  | traffic => exact intake_contextLaw _ (h.of_pacers rfl)
  | mgmt => exact agentLook_contextLaw (h.of_pacers rfl)
  | response => exact takeResponse_contextLaw _ (h.of_pacers rfl)
  | credit => exact h.ofPort (takeCredit_frame _ _ s)
  | bringsUp => exact h.ofPort (bringUp_frame _ _ s)
  | faults => exact faultSequence_induction port (fun p _ => linkReset_contextLaw p) _ h
  | takesReset => exact takeReset_induction port (fun p _ => linkReset_contextLaw p) _ h
  | resetSent => exact h.ofPort ((setLink_frame s _ _).trans (enterInitWait_frame _ _))
  | resends => exact h.ofPort (sendInit_frame _ s)
  | sendsCredit which => exact h.ofPort (creditSendOnce_frame which s)
  | departs => exact depart_contextLaw _ _ h
  | expires => exact expire_contextLaw _ h
  | sweepsEntry => exact visitEntry_contextLaw _ _ h
  | places => exact placeItem_contextLaw _ _ _ h
  | sends =>
    unfold sendResponse
    dsimp only
    split
    · exact h.of_pacers (by simp)
    · exact h.of_pacers rfl
  | _ => exact h.of_pacers rfl

/-- Settles O2: every step is an event, and every event keeps the law. -/
theorem everyStepKeepsTheContextLaw : Obligations.Every_step_keeps_the_context_law := by
  intro s t hs hstep
  obtain ⟨rest, e⟩ := step_event hstep
  exact e.contextLaw (hs.of_pacers rfl)

end Sys2Proof.Machine
end

section
/-!
PROOFS. Every step keeps the law of the pacer table (R2, R15, R16, R46, R47, R69, R88, R112).

The law of one pacer falls into four parts: its context, queue and entries (`PacerBase`), its ABORTING marks and items
(`Aborts`), its place on the calendar (`CalendarRight`), and that it does not wait for its drain check. An event breaks
some of them for one pacer and mends them before it ends; `Loose`, `Unmarked` and `ButDrains` say what stands in between.
-/

namespace Sys2Proof.Machine

/-! ### The parts of the law -/

/-- The context of pacer `p` against its queue, its entries and the sweep queue; `k` entries are BUSY beyond FLIGHT, above
0 only between the fall of FLIGHT and the change of the entry. -/
structure PacerBase (k : Nat) (s : State) (p : PacerId) : Prop where
  flight : (s.pacer p).flight + k = s.busyCount p
  flightCap : (s.pacer p).state ≠ .vacant → (s.pacer p).flight ≤ (s.pacer p).cfg.flightCap.toNat
  qlen : (s.pacer p).qlen = (s.queue p).length
  idleQueue : (s.pacer p).state = .vacant ∨ (s.pacer p).state = .sweeping → (s.pacer p).qlen = 0
  idleFlight : (s.pacer p).state = .vacant ∨ (s.pacer p).state = .staged ∨ (s.pacer p).state = .sweeping →
    (s.pacer p).flight = 0
  sweeping : (s.pacer p).state = .sweeping ↔ p ∈ sweepList s
  retireMode : (s.pacer p).retireMode.isSome = true ↔ (s.pacer p).state = .draining

/-- The ABORTING marks and the ABORTED item of pacer `p` stand where R69 puts them. -/
structure Aborts (s : State) (p : PacerId) : Prop where
  marks : marksRight (s.pacer p) (s.queue p)
  item : s.replies.count (.aborted p) = if discarding (s.pacer p) ∧ s.queue p ≠ [] then 1 else 0

/-- Pacer `p` is on the calendar exactly on the terms of R47. -/
def CalendarRight (s : State) (p : PacerId) : Prop := p ∈ s.calendar ↔ onTerms (s.pacer p) = true

/-- What the law says of the calendar and the Sweeper as wholes. -/
structure Ordered (s : State) : Prop where
  sorted : s.calendar.Pairwise (· < ·)
  sweepOnce : (sweepList s).Nodup
  sweepBusy : s.sweeper.cursor = .idle → s.sweeper.queue = []

theorem pacerLaw_iff (s : State) (p : PacerId) :
    PacerLaw s p ↔ PacerBase 0 s p ∧ Aborts s p ∧ CalendarRight s p ∧ drained (s.pacer p) = false := by
  constructor
  · intro h
    exact ⟨⟨h.flight, h.flightCap, h.qlen, h.idleQueue, h.idleFlight, h.sweeping, h.retireMode⟩,
      ⟨h.marks, h.abortedItem⟩, h.calendar, h.notDrained⟩
  · rintro ⟨hb, ha, hc, hd⟩
    exact ⟨hc, hb.flight, hb.flightCap, hb.qlen, hb.idleQueue, hb.idleFlight, hb.sweeping, hb.retireMode, hd,
      ha.marks, ha.item⟩

theorem TableLaw.ordered {s : State} (h : TableLaw s) : Ordered s := ⟨h.sorted, h.sweepOnce, h.sweepBusy⟩

/-! ### What the law reads of a pacer -/

/-- The fields of a context that the law reads. -/
def Pacer.tableView (c : Pacer) : PacerState × Option RetireMode × Nat × Nat × BitVec 8 :=
  (c.state, c.retireMode, c.flight, c.qlen, c.cfg.flightCap)

section View

variable {c d : Pacer} (h : d.tableView = c.tableView)

include h

theorem state_of_view : d.state = c.state := congrArg (·.1) h
theorem retireMode_of_view : d.retireMode = c.retireMode := congrArg (·.2.1) h
theorem flight_of_view : d.flight = c.flight := congrArg (·.2.2.1) h
theorem qlen_of_view : d.qlen = c.qlen := congrArg (·.2.2.2.1) h
theorem flightCap_of_view : d.cfg.flightCap = c.cfg.flightCap := congrArg (·.2.2.2.2) h

theorem onTerms_of_view : onTerms d = onTerms c := by
  simp only [onTerms, state_of_view h, retireMode_of_view h, flight_of_view h, qlen_of_view h, flightCap_of_view h]

theorem drained_of_view : drained d = drained c := by
  simp only [drained, state_of_view h, flight_of_view h, qlen_of_view h]

theorem discarding_of_view : discarding d = discarding c := by
  simp only [discarding, state_of_view h, retireMode_of_view h]

end View

/-- The law reads the same of pacer `q` in both states. -/
structure SameAt (q : PacerId) (s t : State) : Prop where
  context : (t.pacer q).tableView = (s.pacer q).tableView
  queue : t.queue q = s.queue q
  listed : q ∈ t.calendar ↔ q ∈ s.calendar
  busy : t.busyCount q = s.busyCount q
  swept : q ∈ sweepList t ↔ q ∈ sweepList s
  aborted : t.replies.count (.aborted q) = s.replies.count (.aborted q)

theorem SameAt.trans {q : PacerId} {s t u : State} (f : SameAt q s t) (g : SameAt q t u) : SameAt q s u :=
  ⟨g.context.trans f.context, g.queue.trans f.queue, g.listed.trans f.listed, g.busy.trans f.busy,
    g.swept.trans f.swept, g.aborted.trans f.aborted⟩

theorem PacerBase.same {k : Nat} {q : PacerId} {s t : State} (h : PacerBase k s q) (f : SameAt q s t) :
    PacerBase k t q := by
  obtain ⟨hc, hq, -, hb, hs, -⟩ := f
  have state := state_of_view hc
  have flight := flight_of_view hc
  have qlen := qlen_of_view hc
  constructor
  · rw [flight, hb]; exact h.flight
  · rw [state, flight, flightCap_of_view hc]; exact h.flightCap
  · rw [qlen, hq]; exact h.qlen
  · rw [state, qlen]; exact h.idleQueue
  · rw [state, flight]; exact h.idleFlight
  · rw [state, hs]; exact h.sweeping
  · rw [state, retireMode_of_view hc]; exact h.retireMode

theorem Aborts.same {q : PacerId} {s t : State} (h : Aborts s q) (f : SameAt q s t) : Aborts t q := by
  obtain ⟨hc, hq, -, -, -, ha⟩ := f
  have hd := discarding_of_view hc
  constructor
  · rw [hq]
    have hm := h.marks
    cases hx : s.queue q with
    | nil => trivial
    | cons x rest =>
      rw [hx] at hm
      exact ⟨by rw [hd]; exact hm.1, hm.2⟩
  · rw [ha, hq, hd]; exact h.item

theorem CalendarRight.same {q : PacerId} {s t : State} (h : CalendarRight s q) (f : SameAt q s t) :
    CalendarRight t q := by
  unfold CalendarRight
  rw [f.listed, onTerms_of_view f.context]
  exact h

theorem PacerLaw.same {q : PacerId} {s t : State} (h : PacerLaw s q) (f : SameAt q s t) : PacerLaw t q := by
  obtain ⟨hb, ha, hc, hd⟩ := (pacerLaw_iff s q).mp h
  exact (pacerLaw_iff t q).mpr ⟨hb.same f, ha.same f, hc.same f, by rw [drained_of_view f.context]; exact hd⟩

/-! ### What the law does not read -/

/-- The law reads the same of every pacer, and of the calendar and the Sweeper as wholes. -/
structure TableFrame (s t : State) : Prop where
  context : ∀ q, (t.pacer q).tableView = (s.pacer q).tableView
  queues : t.queues = s.queues
  calendar : t.calendar = s.calendar
  busy : ∀ q, t.busyCount q = s.busyCount q
  sweeper : t.sweeper = s.sweeper
  aborted : ∀ q, t.replies.count (.aborted q) = s.replies.count (.aborted q)

theorem sweepList_congr {s t : State} (h : t.sweeper = s.sweeper) : sweepList t = sweepList s := by
  unfold sweepList
  rw [h]

theorem TableFrame.same {s t : State} (f : TableFrame s t) (q : PacerId) : SameAt q s t where
  context := f.context q
  queue := by simp only [State.queue, f.queues]
  listed := by rw [f.calendar]
  busy := f.busy q
  swept := by rw [sweepList_congr f.sweeper]
  aborted := f.aborted q

theorem TableFrame.trans {s t u : State} (f : TableFrame s t) (g : TableFrame t u) : TableFrame s u :=
  ⟨fun q => (g.context q).trans (f.context q), g.queues.trans f.queues, g.calendar.trans f.calendar,
    fun q => (g.busy q).trans (f.busy q), g.sweeper.trans f.sweeper, fun q => (g.aborted q).trans (f.aborted q)⟩

theorem Ordered.congr {s t : State} (h : Ordered s) (hc : t.calendar = s.calendar) (hs : t.sweeper = s.sweeper) :
    Ordered t := by
  refine ⟨?_, ?_, ?_⟩
  · rw [hc]; exact h.sorted
  · rw [sweepList_congr hs]; exact h.sweepOnce
  · rw [hs]; exact h.sweepBusy

theorem TableLaw.frame {s t : State} (h : TableLaw s) (f : TableFrame s t) : TableLaw t := by
  have ho := h.ordered.congr f.calendar f.sweeper
  exact ⟨fun p => (h.pacers p).same (f.same p), ho.sorted, ho.sweepOnce, ho.sweepBusy⟩

/-- The six parts of the state that the law reads are the same. -/
theorem TableFrame.of_eq {s t : State} (hp : t.pacers = s.pacers) (hq : t.queues = s.queues)
    (hc : t.calendar = s.calendar) (ho : t.outstanding = s.outstanding) (hs : t.sweeper = s.sweeper)
    (hr : t.replies = s.replies) : TableFrame s t :=
  ⟨fun q => by simp only [State.pacer, hp], hq, hc, fun q => by simp only [State.busyCount, ho], hs,
    fun q => by rw [hr]⟩

theorem PortFrame.table {s t : State} (f : PortFrame s t) : TableFrame s t := by
  obtain ⟨-, -, -, -, hq, hp, hc, ho, -, hr, -, -, hs, -⟩ := f.fields
  exact .of_eq hp hq hc ho hs hr

theorem NoticeFrame.table {s t : State} (f : NoticeFrame s t) : TableFrame s t := f.port.table

/-- Pacer `p`'s context alone changes, in nothing the law reads. -/
theorem TableFrame.setPacer (s : State) (p : PacerId) {c : Pacer} (h : c.tableView = (s.pacer p).tableView) :
    TableFrame s (s.setPacer p c) := by
  refine ⟨fun q => ?_, rfl, rfl, fun _ => rfl, rfl, fun _ => rfl⟩
  rw [State.setPacer_pacer]
  split
  · rename_i hq
    rw [hq]; exact h
  · rfl

/-- The same, beside a change of what the law does not read at all. -/
theorem TableFrame.of_context {s t : State} {p : PacerId} {c : Pacer} (hp : t.pacers = tableSet s.pacers p c)
    (hq : t.queues = s.queues) (hc : t.calendar = s.calendar) (ho : t.outstanding = s.outstanding)
    (hs : t.sweeper = s.sweeper) (hr : t.replies = s.replies) (h : c.tableView = (s.pacer p).tableView) :
    TableFrame s t :=
  (TableFrame.setPacer s p h).trans (.of_eq hp hq hc ho hs hr)

theorem AdaptFrame.table {p : PacerId} {s t : State} (f : AdaptFrame p s t) : TableFrame s t := by
  have h := f.rest
  have hq := congrArg State.queues h
  have hc := congrArg State.calendar h
  have ho := congrArg State.outstanding h
  have hs := congrArg State.sweeper h
  have hr := congrArg State.replies h
  refine ⟨fun q => ?_, hq, hc, fun q => ?_, hs, fun q => ?_⟩
  · rcases eq_or_ne q p with rfl | hne
    · obtain ⟨_, _, _, _, _, _, hown⟩ := f.own
      rw [hown]; rfl
    · rw [f.others q hne]
  · exact congrArg (fun o => (Vector.toList o).countP (fun e => e.state == .busy && e.pacer == q)) ho
  · exact congrArg (List.count (.aborted q)) hr

theorem CrossingFrame.table {p : PacerId} {s t : State} (f : CrossingFrame p s t) : TableFrame s t := by
  obtain ⟨slow, pending, hown⟩ := f.own
  exact AdaptFrame.table (p := p) ⟨f.rest, f.others, ⟨_, _, _, _, slow, pending, hown⟩, f.link, f.resend⟩

end Sys2Proof.Machine
end

section
/-!
PROOFS. The operations on one pacer, and what they do to the parts of the table law.
-/

namespace Sys2Proof.Machine

/-! ### In the middle of an event -/

/-- The law but for pacer `p`'s calendar place and drain check, `k` of its BUSY entries being beyond its FLIGHT. -/
structure Loose (k : Nat) (p : PacerId) (s : State) : Prop where
  others : ∀ q, q ≠ p → PacerLaw s q
  base : PacerBase k s p
  aborts : Aborts s p
  ordered : Ordered s

/-- The law but that the pacers of `D` may wait for their drain check. -/
structure ButDrains (D : PacerId → Prop) (s : State) : Prop where
  pacers : ∀ q, PacerBase 0 s q ∧ Aborts s q ∧ CalendarRight s q
  drains : ∀ q, ¬D q → drained (s.pacer q) = false
  ordered : Ordered s

theorem ButDrains.tableLaw {D : PacerId → Prop} {s : State} (h : ButDrains D s)
    (hd : ∀ q, D q → drained (s.pacer q) = false) : TableLaw s := by
  refine ⟨fun q => ?_, h.ordered.sorted, h.ordered.sweepOnce, h.ordered.sweepBusy⟩
  obtain ⟨hb, ha, hc⟩ := h.pacers q
  have hn : drained (s.pacer q) = false := by
    by_cases hq : D q
    · exact hd q hq
    · exact h.drains q hq
  exact (pacerLaw_iff s q).mpr ⟨hb, ha, hc, hn⟩

theorem Loose.frame {k : Nat} {p : PacerId} {s t : State} (h : Loose k p s) (f : TableFrame s t) : Loose k p t :=
  ⟨fun q hq => (h.others q hq).same (f.same q), h.base.same (f.same p), h.aborts.same (f.same p),
    h.ordered.congr f.calendar f.sweeper⟩

theorem TableLaw.loose {s : State} (h : TableLaw s) (p : PacerId) : Loose 0 p s := by
  obtain ⟨hb, ha, -, -⟩ := (pacerLaw_iff s p).mp (h.pacers p)
  exact ⟨fun q _ => h.pacers q, hb, ha, h.ordered⟩

/-- With pacer `p` in its place, only its drain check is left. -/
theorem Loose.butDrains {p : PacerId} {s : State} (h : Loose 0 p s) (hc : CalendarRight s p) :
    ButDrains (· = p) s := by
  refine ⟨fun q => ?_, fun q hq => (h.others q hq).notDrained, h.ordered⟩
  rcases eq_or_ne q p with rfl | hq
  · exact ⟨h.base, h.aborts, hc⟩
  · obtain ⟨hb, ha, hc, -⟩ := (pacerLaw_iff s q).mp (h.others q hq)
    exact ⟨hb, ha, hc⟩

theorem Loose.tableLaw {p : PacerId} {s : State} (h : Loose 0 p s) (hc : CalendarRight s p)
    (hd : (s.pacer p).state ≠ .draining) : TableLaw s := by
  refine (h.butDrains hc).tableLaw (fun q hq => ?_)
  rw [hq, Bool.eq_false_iff]
  exact fun h' => hd ((drained_iff _).mp h').1

/-! ### The calendar -/

/-- Settling puts the pacer in its place and moves no other (R47). -/
theorem settleCalendar_right (p : PacerId) (s : State) : CalendarRight (settleCalendar p s) p := by
  unfold CalendarRight settleCalendar
  split
  · rename_i h
    simp [h]
  · rename_i h
    simp [h]

/-- The context, the queue and the items do not depend on the calendar, nor do the others on pacer `p`'s place. -/
theorem Loose.setCalendar {k : Nat} {p : PacerId} {s : State} (h : Loose k p s) {c : List PacerId}
    (others : ∀ q, q ≠ p → (q ∈ c ↔ q ∈ s.calendar)) (sorted : c.Pairwise (· < ·)) :
    Loose k p { s with calendar := c } :=
  ⟨fun q hq => (h.others q hq).same ⟨rfl, rfl, others q hq, rfl, Iff.rfl, rfl⟩,
    ⟨h.base.flight, h.base.flightCap, h.base.qlen, h.base.idleQueue, h.base.idleFlight, h.base.sweeping,
      h.base.retireMode⟩,
    ⟨h.aborts.marks, h.aborts.item⟩, ⟨sorted, h.ordered.sweepOnce, h.ordered.sweepBusy⟩⟩

theorem Loose.settle {k : Nat} {p : PacerId} {s : State} (h : Loose k p s) : Loose k p (settleCalendar p s) := by
  unfold settleCalendar
  split
  · exact h.setCalendar (fun q hq => by simp [hq]) (insertPacer_sorted p h.ordered.sorted)
  · exact h.setCalendar (fun q hq => by simp [hq]) (leaveCalendar_sorted p h.ordered.sorted)

/-- A pacer off the terms is settled by leaving. -/
theorem settleCalendar_off {p : PacerId} {s : State} (h : onTerms (s.pacer p) = false) :
    settleCalendar p s = leaveCalendar p s := if_neg (by simp [h])

theorem settleCalendar_on {p : PacerId} {s : State} (h : onTerms (s.pacer p) = true) :
    settleCalendar p s = joinCalendar p s := if_pos h

/-- The settling that ends an event of a pacer that is not DRAINING. -/
theorem Loose.settle_tableLaw {p : PacerId} {s : State} (h : Loose 0 p s) (hd : (s.pacer p).state ≠ .draining) :
    TableLaw (settleCalendar p s) :=
  h.settle.tableLaw (settleCalendar_right p s) (by rwa [settleCalendar_pacer])

/-! ### The drain completion check -/

theorem startSweep_busy (s : State) (h : (startSweep s).sweeper.cursor = .idle) :
    (startSweep s).sweeper.queue = [] := by
  unfold startSweep at h ⊢
  split <;> simp_all

theorem drainCheck_same {p q : PacerId} (hq : q ≠ p) (s : State) : SameAt q s (drainCheck p s) := by
  constructor
  · rw [drainCheck_pacer]; simp [hq]
  · simp only [State.queue, drainCheck_queues]
  · rw [drainCheck_calendar]
  · simp only [State.busyCount, drainCheck_outstanding]
  · rw [sweepList_drainCheck]
    split <;> simp [hq]
  · rw [drainCheck_replies]

theorem drainCheck_ordered (p : PacerId) {s : State} (h : Ordered s)
    (hp : drained (s.pacer p) = true → p ∉ sweepList s) : Ordered (drainCheck p s) := by
  refine ⟨?_, ?_, ?_⟩
  · rw [drainCheck_calendar]
    exact h.sorted
  · rw [sweepList_drainCheck]
    split
    · rename_i hd
      exact List.nodup_append.mpr ⟨h.sweepOnce, List.nodup_singleton p, fun a ha b hb e => by
        rw [List.mem_singleton.mp hb] at e
        exact hp hd (e ▸ ha)⟩
    · simpa using h.sweepOnce
  · unfold drainCheck
    split
    · exact startSweep_busy _
    · exact h.sweepBusy

/-- A drained pacer has nothing queued, nothing in flight and no place on the calendar, which is all the law asks of it
in SWEEPING (R15, R16). -/
theorem drainCheck_pacerParts {p : PacerId} {s : State} (hd : drained (s.pacer p) = true) (hb : PacerBase 0 s p)
    (ha : Aborts s p) (hc : CalendarRight s p) :
    PacerBase 0 (drainCheck p s) p ∧ Aborts (drainCheck p s) p ∧ CalendarRight (drainCheck p s) p := by
  obtain ⟨hs, hq0, hf0⟩ := (drained_iff _).mp hd
  have hqueue : s.queue p = [] := List.length_eq_zero_iff.mp (hb.qlen ▸ hq0)
  have hbusy : s.busyCount p = 0 := by rw [← hb.flight, hf0]
  have hoff : p ∉ s.calendar := fun hm => by
    have := hc.mp hm
    simp [onTerms, hq0] at this
  have hp : (drainCheck p s).pacer p = { s.pacer p with state := .sweeping, retireMode := none } := by
    rw [drainCheck_pacer]; simp [hd]
  have hq : (drainCheck p s).queue p = [] := by rw [State.queue, drainCheck_queues]; exact hqueue
  have hbu : (drainCheck p s).busyCount p = 0 := by rw [State.busyCount, drainCheck_outstanding]; exact hbusy
  have hsw : p ∈ sweepList (drainCheck p s) := by rw [sweepList_drainCheck]; simp [hd]
  refine ⟨?_, ?_, ?_⟩
  · constructor <;> simp [hp, hq, hbu, hq0, hf0, hsw]
  · have hi := ha.item
    simp only [hqueue, ne_eq, not_true_eq_false, and_false, if_false] at hi
    exact ⟨by rw [hq]; trivial, by rw [drainCheck_replies, hi, hq]; simp⟩
  · unfold CalendarRight
    rw [drainCheck_calendar, hp]
    simp [hoff, onTerms]

/-- The check settles pacer `p`'s drain and no other's. -/
theorem ButDrains.drainCheck {D : PacerId → Prop} {s : State} (h : ButDrains D s) (p : PacerId) :
    ButDrains (fun q => D q ∧ q ≠ p) (drainCheck p s) := by
  refine ⟨fun q => ?_, fun q hq => ?_, drainCheck_ordered p h.ordered (fun hd hm => ?_)⟩
  · obtain ⟨hb, ha, hc⟩ := h.pacers q
    rcases eq_or_ne q p with rfl | hne
    · by_cases hd : drained (s.pacer q) = true
      · exact drainCheck_pacerParts hd hb ha hc
      · rw [show Machine.drainCheck q s = s from if_neg hd]
        exact ⟨hb, ha, hc⟩
    · have f := drainCheck_same hne s
      exact ⟨hb.same f, ha.same f, hc.same f⟩
  · rw [drainCheck_pacer]
    split
    · rfl
    · rename_i hn
      by_cases hp : q = p
      · subst hp
        simpa using hn
      · exact h.drains q (fun hD => hq ⟨hD, hp⟩)
  · obtain ⟨hb, -, -⟩ := h.pacers p
    have hs := hb.sweeping.mpr hm
    rw [((drained_iff _).mp hd).1] at hs
    cases hs

theorem ButDrains.drainCheckAll {D : PacerId → Prop} (l : List PacerId) {s : State} (h : ButDrains D s) :
    ButDrains (fun q => D q ∧ q ∉ l) (drainCheckAll l s) := by
  induction l generalizing D s with
  | nil => exact ⟨h.pacers, fun q hq => h.drains q (fun hD => hq ⟨hD, by simp⟩), h.ordered⟩
  | cons p rest ih =>
    have hr := ih (h.drainCheck p)
    refine ⟨hr.pacers, fun q hq => hr.drains q (fun hD => hq ⟨hD.1.1, ?_⟩), hr.ordered⟩
    exact List.not_mem_cons_of_ne_of_not_mem hD.1.2 hD.2

/-- The check that ends an event whose pacer stands in its place. -/
theorem Loose.drainCheck_tableLaw {p : PacerId} {s : State} (h : Loose 0 p s) (hc : CalendarRight s p) :
    TableLaw (drainCheck p s) :=
  ((h.butDrains hc).drainCheck p).tableLaw (fun _ hq => absurd hq.1 hq.2)

/-- The settling and the check that end a departure, a fall of FLIGHT and RETIRE_FLUSH. -/
theorem Loose.settle_drain {p : PacerId} {s : State} (h : Loose 0 p s) :
    TableLaw (drainCheck p (settleCalendar p s)) :=
  h.settle.drainCheck_tableLaw (settleCalendar_right p s)

theorem mem_insertByRank (rank : PacerId → Nat) (p q : PacerId) (l : List PacerId) :
    q ∈ insertByRank rank p l ↔ q = p ∨ q ∈ l := by
  induction l with
  | nil => simp [insertByRank]
  | cons r rest ih =>
    unfold insertByRank
    split
    · simp
    · simp only [List.mem_cons, ih]; tauto

theorem mem_sortByRank (rank : PacerId → Nat) (q : PacerId) (l : List PacerId) :
    q ∈ sortByRank rank l ↔ q ∈ l := by
  induction l with
  | nil => rfl
  | cons p rest ih => rw [sortByRank, mem_insertByRank, ih, List.mem_cons]

/-- The drains that a link reset completes are all that wait (R15, R72, R106). -/
theorem ButDrains.completeDrains {s : State} (h : ButDrains (fun _ => True) s) : TableLaw (completeDrains s) := by
  have h0 : ButDrains (fun q => drained (s.pacer q) = true) { s with draws := s.draws + 1 } :=
    ⟨fun q => ⟨(h.pacers q).1.same ⟨rfl, rfl, Iff.rfl, rfl, Iff.rfl, rfl⟩,
        (h.pacers q).2.1.same ⟨rfl, rfl, Iff.rfl, rfl, Iff.rfl, rfl⟩, (h.pacers q).2.2⟩,
      fun q hq => Bool.eq_false_iff.mpr hq, ⟨h.ordered.sorted, h.ordered.sweepOnce, h.ordered.sweepBusy⟩⟩
  refine (h0.drainCheckAll _).tableLaw (fun q hq => absurd ?_ hq.2)
  rw [mem_sortByRank]
  exact List.mem_filter.mpr ⟨List.mem_finRange q, hq.1⟩

/-! ### DISCARD processing -/

/-- The law but that pacer `p`, DRAINING with DISCARD, has no ABORTING mark and no ABORTED item yet. -/
structure Unmarked (p : PacerId) (s : State) : Prop where
  others : ∀ q, q ≠ p → PacerLaw s q
  base : PacerBase 0 s p
  discards : discarding (s.pacer p) = true
  clean : ∀ x ∈ s.queue p, x.aborting = false
  noItem : s.replies.count (.aborted p) = 0
  off : p ∉ s.calendar
  ordered : Ordered s

theorem discarding_iff (c : Pacer) : discarding c = true ↔ c.state = .draining ∧ c.retireMode = some .discard := by
  simp [discarding]

theorem onTerms_of_discarding {c : Pacer} (h : discarding c = true) : onTerms c = false := by
  obtain ⟨hs, hm⟩ := (discarding_iff c).mp h
  simp [onTerms, hs, hm]

/-- With its queue empty there is nothing to mark. -/
theorem Unmarked.loose_of_empty {p : PacerId} {s : State} (h : Unmarked p s) (hq : s.queue p = []) : Loose 0 p s :=
  ⟨h.others, h.base, ⟨by rw [hq]; trivial, by rw [h.noItem, hq]; simp⟩, h.ordered⟩

theorem Unmarked.calendarRight {p : PacerId} {s : State} (h : Unmarked p s) : CalendarRight s p := by
  unfold CalendarRight
  rw [onTerms_of_discarding h.discards]
  simp [h.off]

theorem Unmarked.frame {p : PacerId} {s t : State} (h : Unmarked p s) (f : TableFrame s t) : Unmarked p t := by
  have fp := f.same p
  refine ⟨fun q hq => (h.others q hq).same (f.same q), h.base.same fp, ?_, ?_, ?_, ?_,
    h.ordered.congr f.calendar f.sweeper⟩
  · rw [discarding_of_view fp.context]; exact h.discards
  · rw [fp.queue]; exact h.clean
  · rw [fp.aborted]; exact h.noItem
  · rw [fp.listed]; exact h.off

/-- The head's removal touches no other pacer. -/
theorem removeHead_same {p q : PacerId} (hq : q ≠ p) (s : State) : SameAt q s (removeHead p s) := by
  cases hx : s.queue p with
  | nil => rw [removeHead_nil p s hx]; exact ⟨rfl, rfl, Iff.rfl, rfl, Iff.rfl, rfl⟩
  | cons x rest =>
    rw [removeHead_cons p s x rest hx]
    refine ⟨?_, tableGet_tableSet_ne _ hq _, Iff.rfl, rfl, Iff.rfl, rfl⟩
    exact congrArg Pacer.tableView (tableGet_tableSet_ne _ hq _)

/-- The head leaves from a state in which a queue may stand. -/
theorem PacerBase.removeHead {k : Nat} {p : PacerId} {s : State} (h : PacerBase k s p) {x : HoldSlot}
    {rest : List HoldSlot} (hx : s.queue p = x :: rest) : PacerBase k (removeHead p s) p := by
  have hp := removeHead_pacer_self hx
  have hq := removeHead_queue_self hx
  have hlen : (s.pacer p).qlen = rest.length + 1 := by rw [h.qlen, hx]; rfl
  have hb : (Machine.removeHead p s).busyCount p = s.busyCount p := by rw [removeHead_cons p s x rest hx]; rfl
  have hs : sweepList (Machine.removeHead p s) = sweepList s := by rw [removeHead_cons p s x rest hx]; rfl
  constructor
  · rw [hp, hb]; exact h.flight
  · rw [hp]; exact h.flightCap
  · rw [hp, hq]
    show (s.pacer p).qlen - 1 = rest.length
    omega
  · rw [hp]
    intro hi
    have := h.idleQueue hi
    omega
  · rw [hp]; exact h.idleFlight
  · rw [hp, hs]; exact h.sweeping
  · rw [hp]; exact h.retireMode

theorem removeHead_ordered (p : PacerId) {s : State} (h : Ordered s) : Ordered (removeHead p s) := by
  cases hx : s.queue p with
  | nil => rwa [removeHead_nil p s hx]
  | cons x rest =>
    rw [removeHead_cons p s x rest hx]
    exact ⟨h.sorted, h.sweepOnce, h.sweepBusy⟩

theorem bump_frame (s : State) (c : Counter) : TableFrame s (s.bump c) := .of_eq rfl rfl rfl rfl rfl rfl

/-- A posted write at the head is dropped (R69). -/
theorem Unmarked.removeHead {p : PacerId} {s : State} (h : Unmarked p s) {x : HoldSlot} {rest : List HoldSlot}
    (hx : s.queue p = x :: rest) : Unmarked p (removeHead p s) := by
  refine ⟨fun q hq => (h.others q hq).same (removeHead_same hq s), h.base.removeHead hx, ?_, ?_, ?_, ?_,
    removeHead_ordered p h.ordered⟩
  · rw [removeHead_pacer_self hx]; exact h.discards
  · rw [removeHead_queue_self hx]
    exact fun y hy => h.clean y (by rw [hx]; exact List.mem_cons_of_mem x hy)
  · rw [removeHead_replies]; exact h.noItem
  · rw [removeHead_calendar]; exact h.off

theorem abortHead_same {p q : PacerId} (hq : q ≠ p) (x : HoldSlot) (rest : List HoldSlot) (s : State) :
    SameAt q s (abortHead p x rest s) := by
  refine ⟨rfl, tableGet_tableSet_ne _ hq _, Iff.rfl, rfl, Iff.rfl, ?_⟩
  have hne : ReplyItem.aborted p ≠ .aborted q := fun e => hq (ReplyItem.aborted.inj e).symm
  simp [abortHead, pushReply, List.count_append, hne]

/-- The first READ or WRITE takes the mark, and its item joins the Reply List (R69). -/
theorem Unmarked.abortHead {p : PacerId} {s : State} (h : Unmarked p s) {x : HoldSlot} {rest : List HoldSlot}
    (hx : s.queue p = x :: rest) : Loose 0 p (abortHead p x rest s) := by
  have hq : (Machine.abortHead p x rest s).queue p = { x with aborting := true } :: rest := tableGet_tableSet_self _ _ _
  have hp : (Machine.abortHead p x rest s).pacer p = s.pacer p := rfl
  have hr : (Machine.abortHead p x rest s).replies = s.replies ++ [.aborted p] := rfl
  refine ⟨fun q hne => (h.others q hne).same (abortHead_same hne x rest s), ?_, ⟨?_, ?_⟩,
    ⟨h.ordered.sorted, h.ordered.sweepOnce, h.ordered.sweepBusy⟩⟩
  · have hl : (s.pacer p).qlen = ((Machine.abortHead p x rest s).queue p).length := by
      rw [hq, h.base.qlen, hx]; rfl
    exact ⟨h.base.flight, h.base.flightCap, hl, h.base.idleQueue, h.base.idleFlight, h.base.sweeping,
      h.base.retireMode⟩
  · rw [hq, hp]
    exact ⟨h.discards.symm, fun y hy => h.clean y (by rw [hx]; exact List.mem_cons_of_mem x hy)⟩
  · rw [hr, hq, hp, List.count_append, h.noItem, h.discards]
    simp

/-- DISCARD processing along a queue leaves the marks right (R69). -/
theorem Unmarked.discardFrom {p : PacerId} (l : List HoldSlot) {s : State} (h : Unmarked p s) (hl : s.queue p = l) :
    Loose 0 p (discardFrom p l s) ∧ CalendarRight (discardFrom p l s) p := by
  induction l generalizing s with
  | nil => exact ⟨h.loose_of_empty hl, h.calendarRight⟩
  | cons x rest ih =>
    unfold Machine.discardFrom
    split
    · have hr := (h.removeHead hl).frame (bump_frame _ .postedDrops)
      exact ih hr (removeHead_queue_self hl)
    · have hx : x.aborting = false := h.clean x (by rw [hl]; exact List.mem_cons_self)
      simp only [hx, Bool.false_eq_true, if_false]
      exact ⟨h.abortHead hl, h.calendarRight⟩

theorem Unmarked.processDiscard {p : PacerId} {s : State} (h : Unmarked p s) : TableLaw (processDiscard p s) := by
  obtain ⟨hl, hc⟩ := h.discardFrom _ rfl
  exact hl.drainCheck_tableLaw hc

end Sys2Proof.Machine
end

section
/-!
PROOFS. The commands and the management requests keep the table law.
-/

namespace Sys2Proof.Machine

/-! ### Changes of one context -/

theorem onTerms_iff (c : Pacer) :
    onTerms c = true ↔ (c.state = .live ∨ (c.state = .draining ∧ c.retireMode = some .flush)) ∧ 0 < c.qlen ∧
      c.flight < c.cfg.flightCap.toNat := by
  cases hs : c.state <;> simp [onTerms, hs, and_assoc]

theorem marksRight_congr {c d : Pacer} (h : discarding d = discarding c) {l : List HoldSlot} (hm : marksRight c l) :
    marksRight d l := by
  cases l with
  | nil => trivial
  | cons x rest => exact ⟨by rw [h]; exact hm.1, hm.2⟩

/-- The changes of a context that keep its queue and neither begin nor end a drain with DISCARD or a sweep, and that
leave `k'` BUSY entries beyond FLIGHT where `k` were. -/
structure Moves (k k' : Nat) (c d : Pacer) : Prop where
  flight : d.flight + k' = c.flight + k
  flightCap : d.state ≠ .vacant → d.flight ≤ d.cfg.flightCap.toNat
  qlen : d.qlen = c.qlen
  idleQueue : d.state = .vacant ∨ d.state = .sweeping → d.qlen = 0
  idleFlight : d.state = .vacant ∨ d.state = .staged ∨ d.state = .sweeping → d.flight = 0
  sweeping : d.state = .sweeping ↔ c.state = .sweeping
  retireMode : d.retireMode.isSome = true ↔ d.state = .draining
  discards : discarding d = discarding c

theorem setPacer_same {p q : PacerId} (hq : q ≠ p) (s : State) (c : Pacer) : SameAt q s (s.setPacer p c) :=
  ⟨by rw [State.setPacer_pacer_ne s hq], rfl, Iff.rfl, rfl, Iff.rfl, rfl⟩

theorem Loose.setPacer {k k' : Nat} {p : PacerId} {s : State} (h : Loose k p s) {d : Pacer}
    (m : Moves k k' (s.pacer p) d) : Loose k' p (s.setPacer p d) := by
  refine ⟨fun q hq => (h.others q hq).same (setPacer_same hq s d), ?_, ⟨?_, ?_⟩,
    ⟨h.ordered.sorted, h.ordered.sweepOnce, h.ordered.sweepBusy⟩⟩
  · constructor <;> rw [State.setPacer_pacer_self]
    · exact m.flight.trans h.base.flight
    · exact m.flightCap
    · exact m.qlen.trans h.base.qlen
    · exact m.idleQueue
    · exact m.idleFlight
    · exact m.sweeping.trans h.base.sweeping
    · exact m.retireMode
  · rw [State.setPacer_pacer_self]
    exact marksRight_congr m.discards h.aborts.marks
  · rw [State.setPacer_pacer_self, m.discards]
    exact h.aborts.item

/-- A pacer that neither stood on the calendar nor is on its terms now stays off it. -/
theorem Loose.tableLaw_of_off {p : PacerId} {s : State} (h : Loose 0 p s) (ho : p ∉ s.calendar)
    (ht : onTerms (s.pacer p) = false) (hd : (s.pacer p).state ≠ .draining) : TableLaw s := by
  refine h.tableLaw ?_ hd
  unfold CalendarRight
  simp [ho, ht]

theorem TableLaw.not_mem_calendar {s : State} (h : TableLaw s) {p : PacerId} (ht : onTerms (s.pacer p) = false) :
    p ∉ s.calendar := fun hm => by
  rw [(h.pacers p).calendar.mp hm] at ht
  cases ht

theorem onTerms_of_parked {c : Pacer} (h : c.state = .vacant ∨ c.state = .staged ∨ c.state = .paused) :
    onTerms c = false := by
  rcases h with h | h | h <;> simp [onTerms, h]

/-- A change of a pacer that is VACANT, STAGED or PAUSED before it and after it. -/
theorem TableLaw.setPacer_parked {s : State} (h : TableLaw s) {p : PacerId} {d : Pacer}
    (m : Moves 0 0 (s.pacer p) d)
    (hc : (s.pacer p).state = .vacant ∨ (s.pacer p).state = .staged ∨ (s.pacer p).state = .paused)
    (hd : d.state = .vacant ∨ d.state = .staged ∨ d.state = .paused) : TableLaw (s.setPacer p d) := by
  refine ((h.loose p).setPacer m).tableLaw_of_off (h.not_mem_calendar (onTerms_of_parked hc)) ?_ ?_
  · rw [State.setPacer_pacer_self]
    exact onTerms_of_parked hd
  · rw [State.setPacer_pacer_self]
    rcases hd with hd | hd | hd <;> rw [hd] <;> decide

theorem discarding_of_state {c : Pacer} (h : c.state ≠ .draining) : discarding c = false := by
  simp [discarding, h]

/-- A change among the states that hold requests and are not swept, the drain with DISCARD left out. -/
theorem TableLaw.moves {s : State} (h : TableLaw s) {p : PacerId} {d : Pacer} (hb : bindable (s.pacer p) = true)
    (hs : d.state = .live ∨ d.state = .paused ∨ (d.state = .draining ∧ d.retireMode = some .flush))
    (hm : d.state ≠ .draining → d.retireMode = (s.pacer p).retireMode) (hf : d.flight = (s.pacer p).flight)
    (hq : d.qlen = (s.pacer p).qlen) (hcap : d.cfg.flightCap = (s.pacer p).cfg.flightCap) :
    Moves 0 0 (s.pacer p) d := by
  have hl := h.pacers p
  have hnv := ne_vacant_of_bindable hb
  have hns : (s.pacer p).state ≠ .sweeping := fun e => by simp [bindable, e] at hb
  have hnd : (s.pacer p).state ≠ .draining := fun e => by simp [bindable, e] at hb
  have hnone : (s.pacer p).retireMode = none := by
    have := mt hl.retireMode.mp hnd
    simpa using this
  have hdisc : discarding d = false := by
    rcases hs with hs | hs | ⟨hs, hmode⟩
    · exact discarding_of_state (by rw [hs]; decide)
    · exact discarding_of_state (by rw [hs]; decide)
    · simp [discarding, hmode]
  have hcap' : d.flight ≤ d.cfg.flightCap.toNat := by rw [hf, hcap]; exact hl.flightCap hnv
  have hidle : ¬(d.state = .vacant ∨ d.state = .staged ∨ d.state = .sweeping) := by
    rcases hs with hs | hs | ⟨hs, -⟩ <;> simp [hs]
  refine ⟨by rw [hf], fun _ => hcap', hq, fun hi => absurd (by tauto) hidle, fun hi => absurd hi hidle, ?_, ?_, ?_⟩
  · exact ⟨fun e => absurd (by tauto) hidle, fun e => absurd e hns⟩
  · by_cases hd : d.state = .draining
    · rcases hs with hs | hs | ⟨-, hmode⟩
      · rw [hd] at hs; cases hs
      · rw [hd] at hs; cases hs
      · simp [hd, hmode]
    · simp [hd, hm hd, hnone]
  · rw [hdisc, discarding_of_state hnd]

/-! ### Commands and words -/

theorem withdrawCrossing_table (p : PacerId) (s : State) : TableFrame s (withdrawCrossing p s) := by
  unfold withdrawCrossing
  split
  · rw [State.removeCrossing_eq]
    exact .of_context rfl rfl rfl rfl rfl rfl rfl
  · exact .of_eq rfl rfl rfl rfl rfl rfl

/-- A pacer that does not drain with DISCARD has no ABORTING mark in its queue and no ABORTED item (R69). -/
theorem TableLaw.unmarked_queue {s : State} (h : TableLaw s) {p : PacerId} (hd : discarding (s.pacer p) = false) :
    (∀ x ∈ s.queue p, x.aborting = false) ∧ s.replies.count (.aborted p) = 0 := by
  have hm := (h.pacers p).marks
  have hi := (h.pacers p).abortedItem
  refine ⟨fun x hx => ?_, by simpa [hd] using hi⟩
  cases hq : s.queue p with
  | nil => rw [hq] at hx; cases hx
  | cons y rest =>
    rw [hq] at hm hx
    rcases List.mem_cons.mp hx with rfl | hx
    · exact hm.1.trans hd
    · exact hm.2 x hx

/-- A pacer that enters DRAINING with DISCARD, off the calendar, is ready for DISCARD processing (R12, R13, R69). -/
theorem TableLaw.enterDiscard {s : State} (h : TableLaw s) {p : PacerId}
    (hs : bindable (s.pacer p) = true ∨ ((s.pacer p).state = .draining ∧ (s.pacer p).retireMode = some .flush)) :
    Unmarked p (leaveCalendar p (s.modPacer p (drainingPacer .discard))) := by
  have hl := h.pacers p
  have hnd : discarding (s.pacer p) = false := by
    rcases hs with hb | ⟨-, hm⟩
    · exact discarding_of_state (fun e => by simp [bindable, e] at hb)
    · simp [discarding, hm]
  have hnv : (s.pacer p).state ≠ .vacant := by
    rcases hs with hb | ⟨hd, -⟩
    · exact ne_vacant_of_bindable hb
    · rw [hd]; decide
  have hns : (s.pacer p).state ≠ .sweeping := by
    rcases hs with hb | ⟨hd, -⟩
    · exact fun e => by simp [bindable, e] at hb
    · rw [hd]; decide
  obtain ⟨hclean, hcount⟩ := h.unmarked_queue hnd
  have hp : (leaveCalendar p (s.modPacer p (drainingPacer .discard))).pacer p = drainingPacer .discard (s.pacer p) :=
    s.setPacer_pacer_self p _
  refine ⟨fun q hq => (h.pacers q).same ?_, ?_, ?_, hclean, hcount, by simp [leaveCalendar],
    ⟨leaveCalendar_sorted p h.sorted, h.sweepOnce, h.sweepBusy⟩⟩
  · exact (setPacer_same hq s _).trans ⟨rfl, rfl, by simp [hq], rfl, Iff.rfl, rfl⟩
  · constructor <;> rw [hp]
    · exact hl.flight
    · exact fun _ => hl.flightCap hnv
    · exact hl.qlen
    · exact fun hi => hi.elim (nomatch ·) (nomatch ·)
    · exact fun hi => hi.elim (nomatch ·) (·.elim (nomatch ·) (nomatch ·))
    · exact ⟨(nomatch ·), fun hm => absurd (hl.sweeping.mpr hm) hns⟩
    · exact ⟨fun _ => rfl, fun _ => rfl⟩
  · rw [hp]; rfl

theorem alertDue_table (s : State) : TableFrame s s.alertDue := (State.alertDue_frame s).table

theorem rearmAlert_table (s : State) : TableFrame s (rearmAlert s) := by
  have f : TableFrame s { s with notices := { s.notices with alertArmed := true } } := .of_eq rfl rfl rfl rfl rfl rfl
  unfold rearmAlert
  dsimp only
  split
  · exact f.trans (alertDue_table _)
  · exact f

theorem CommandEffect.tableLaw {s t : State} (e : CommandEffect s t) (h : TableLaw s) : TableLaw t := by
  have hw (p : PacerId) : TableLaw (withdrawCrossing p s) := h.frame (withdrawCrossing_table p s)
  have hwb {p : PacerId} (hb : bindable (s.pacer p) = true) : bindable ((withdrawCrossing p s).pacer p) = true := by
    unfold bindable
    rw [withdrawCrossing_state]
    exact hb
  cases e with
  | none => exact h
  | rearms => exact h.frame (rearmAlert_table s)
  | @stages p hs hl =>
    have hq := (h.pacers p).idleQueue (.inl hs)
    have hf := (h.pacers p).idleFlight (.inl hs)
    have hr : (s.pacer p).retireMode.isSome = false :=
      Bool.eq_false_iff.mpr (mt (h.pacers p).retireMode.mp (by rw [hs]; decide))
    have hd : discarding (stagedPacer (s.pacer p)) = discarding (s.pacer p) :=
      (discarding_of_state (by simp [stagedPacer])).trans (discarding_of_state (by rw [hs]; decide)).symm
    refine h.setPacer_parked ?_ (.inl hs) (.inr (.inl rfl))
    constructor <;> simp [stagedPacer, hq, hf, hs, hr]
    exact hd
  | @starts p hs =>
    have m : Moves 0 0 (s.pacer p) (startedPacer s.clock.pacingTime (s.pacer p)) :=
      h.moves (by simp [bindable, hs]) (.inl rfl) (fun _ => rfl) rfl rfl rfl
    have hl := ((h.loose p).setPacer m).frame (crossingCheck_frame p _).table
    refine hl.settle_tableLaw ?_
    rw [state_of_view ((crossingCheck_frame p _).table.context p), State.setPacer_pacer_self]
    exact fun e => nomatch e
  | @pauses p hs =>
    have m : Moves 0 0 (s.pacer p) { s.pacer p with state := .paused } :=
      h.moves (by simp [bindable, hs]) (.inr (.inl rfl)) (fun _ => rfl) rfl rfl rfl
    have hp : (s.setPacer p { s.pacer p with state := .paused }).pacer p = { s.pacer p with state := .paused } :=
      s.setPacer_pacer_self p _
    rw [← settleCalendar_off (by rw [hp]; rfl)]
    exact ((h.loose p).setPacer m).settle_tableLaw (by rw [hp]; exact fun e => nomatch e)
  | @resumes p hs =>
    have m : Moves 0 0 (s.pacer p) (resumedPacer s.clock.pacingTime (s.pacer p)) :=
      h.moves (by simp [bindable, hs]) (.inl rfl) (fun _ => rfl) rfl rfl rfl
    refine ((h.loose p).setPacer m).settle_tableLaw ?_
    rw [State.setPacer_pacer_self]
    exact fun e => nomatch e
  | @flushes p hb =>
    have m := (hw p).moves (d := drainingPacer .flush ((withdrawCrossing p s).pacer p)) (hwb hb)
      (.inr (.inr ⟨rfl, rfl⟩)) (fun hn => absurd rfl hn) rfl rfl rfl
    exact (((hw p).loose p).setPacer m).settle_drain
  | @discards p hb => exact ((hw p).enterDiscard (.inl (hwb hb))).processDiscard
  | @turns p hs hm => exact (h.enterDiscard (.inr ⟨hs, hm⟩)).processDiscard
  | @spaces p v hs => exact h.frame (TableFrame.setPacer s p rfl)
  | @respaces p v hs =>
    refine (h.frame ?_).frame (crossingCheck_frame p _).table
    exact TableFrame.setPacer s p rfl

theorem popNotice_table (s : State) : TableFrame s (popNotice s) := by
  unfold popNotice
  split
  · exact .of_eq rfl rfl rfl rfl rfl rfl
  · dsimp only
    split
    · exact .of_context rfl rfl rfl rfl rfl rfl rfl
    · exact .of_eq rfl rfl rfl rfl rfl rfl

theorem writeEnables_table (v : BitVec 8) (s : State) : TableFrame s (writeEnables v s) := by
  have f : TableFrame s { s with agent := { s.agent with enables := v } } := .of_eq rfl rfl rfl rfl rfl rfl
  unfold writeEnables
  dsimp only
  split
  · exact .of_eq rfl rfl rfl rfl rfl rfl
  · split
    · exact f.trans (alertDue_table _)
    · exact f

/-- An accepted write keeps FLIGHT_CAP no smaller than FLIGHT (R18). -/
theorem rewritten_flightCap {c : Pacer} {w : Fin 7} {v : MgmtWord} (h : c.flight ≤ c.cfg.flightCap.toNat)
    (hu : underOccupied c (configWithWord c.cfg w v) w = false) :
    c.flight ≤ (configWithWord c.cfg w v).flightCap.toNat := by
  by_cases h6 : w = 6
  · have hn := mt (underOccupied_iff c (configWithWord c.cfg w v) w).mpr (by simp [hu])
    simp only [not_or, not_and, not_lt] at hn
    exact (hn.1 h6).1
  · have hcap : (configWithWord c.cfg w v).flightCap = c.cfg.flightCap := by
      fin_cases w <;> simp_all [configWithWord]
    rwa [hcap]

theorem RequestEffect.tableLaw {s t : State} (e : RequestEffect s t) (h : TableLaw s) : TableLaw t := by
  have rewrite {p : PacerId} {w : Fin 7} {v : MgmtWord}
      (hs : (s.pacer p).state = .staged ∨ (s.pacer p).state = .paused)
      (hu : underOccupied (s.pacer p) (configWithWord (s.pacer p).cfg w v) w = false) :
      TableLaw (s.setPacer p (rewritten (s.pacer p) w v)) := by
    have hl := h.pacers p
    have hnv : (s.pacer p).state ≠ .vacant := by rcases hs with hs | hs <;> rw [hs] <;> decide
    refine h.setPacer_parked ?_ (.inr hs) (.inr hs)
    exact ⟨rfl, fun _ => rewritten_flightCap (hl.flightCap hnv) hu, rfl, hl.idleQueue, hl.idleFlight, Iff.rfl,
      hl.retireMode, rfl⟩
  cases e with
  | denies g => exact h.frame ((bump_frame s .denied).trans (State.plainNotice_frame _ _).table)
  | pops => exact h.frame (popNotice_table s)
  | setsEnables x => exact h.frame (writeEnables_table x s)
  | @configures p w v hs =>
    have hl := h.pacers p
    exact h.setPacer_parked
      ⟨rfl, fun hn => absurd hs hn, rfl, hl.idleQueue, hl.idleFlight, Iff.rfl, hl.retireMode, rfl⟩ (.inl hs) (.inl hs)
  | rewrites w v hs _ hu => exact rewrite hs hu
  | @rewritesAndChecks p w v hs _ hu => exact (rewrite (.inr hs) hu).frame (crossingCheck_frame p _).table
  | commands last he => exact (he.tableLaw h).frame (.of_eq rfl rfl rfl rfl rfl rfl)
  | _ => exact h.frame (.of_eq rfl rfl rfl rfl rfl rfl)

/-! ### The agent -/

/-- An item that is no ABORTED item joins the Reply List. -/
theorem pushReply_table (s : State) {i : ReplyItem} (h : ∀ q, i ≠ .aborted q) : TableFrame s (pushReply i s) := by
  refine ⟨fun _ => rfl, rfl, rfl, fun _ => rfl, rfl, fun q => ?_⟩
  simp [List.count_append, h q]

theorem freeMgmtHead_table (s : State) : TableFrame s (freeMgmtHead s) := by
  unfold freeMgmtHead
  split
  · exact .of_eq rfl rfl rfl rfl rfl rfl
  · rw [State.returnMgmt_eq]; exact .of_eq rfl rfl rfl rfl rfl rfl

theorem takeRequest_tableLaw (pkt : Packet) (s : State) (h : TableLaw s) : TableLaw (takeRequest pkt s) := by
  have he := (judgeRequest_effect pkt s).tableLaw h
  exact (he.frame (pushReply_table _ (i := .mgmt (judgeRequest pkt s).2.status (judgeRequest pkt s).2.detail
    (judgeRequest pkt s).2.beat) (fun _ hn => nomatch hn))).frame (.of_eq rfl rfl rfl rfl rfl rfl)

theorem agentLook_tableLaw {s : State} (h : TableLaw s) : TableLaw (agentLook s) :=
  agentLook_induction (fun s hs => hs.frame ((freeMgmtHead_table s).trans (bump_frame _ _))) takeRequest_tableLaw h

end Sys2Proof.Machine
end

section
/-!
PROOFS. The events of the queues, the entries, the Sweeper and the Reply List keep the table law.
-/

namespace Sys2Proof.Machine

/-! ### The entries (R112) -/

/-- The entry counts towards FLIGHT of pacer `p` (R112). -/
def busyFor (p : PacerId) (e : Entry) : Bool := e.state == .busy && e.pacer == p

theorem busyFor_iff (p : PacerId) (e : Entry) : busyFor p e = true ↔ e.state = .busy ∧ e.pacer = p := by
  simp [busyFor]

theorem busyFor_of_not_busy {e : Entry} (h : e.state ≠ .busy) (p : PacerId) : busyFor p e = false := by
  simp [busyFor, h]

theorem entry_eq_getElem (s : State) (n : EntryId) (h : n.val < s.outstanding.toList.length) :
    s.outstanding.toList[n.val] = s.entry n := by
  simp [State.entry, tableGet, Vector.get_eq_getElem]

/-- One entry's change moves the count of BUSY entries by what it was and what it is (R112). -/
theorem busyCount_setEntry (s : State) (n : EntryId) (e : Entry) (p : PacerId) :
    (s.setEntry n e).busyCount p + (if busyFor p (s.entry n) then 1 else 0) =
      s.busyCount p + (if busyFor p e then 1 else 0) := by
  have hn : n.val < s.outstanding.toList.length := by simp
  have hset : (s.setEntry n e).busyCount p = (s.outstanding.toList.set n.val e).countP (busyFor p) :=
    congrArg (List.countP (busyFor p)) (Vector.toList_set n.isLt)
  have hle := List.boole_getElem_le_countP (p := busyFor p) hn
  have hold : s.busyCount p = s.outstanding.toList.countP (busyFor p) := rfl
  rw [hset, List.countP_set hn, hold, entry_eq_getElem]
  rw [entry_eq_getElem] at hle
  omega

theorem busyCount_setEntry_same {s : State} {n : EntryId} {e : Entry} {p : PacerId}
    (h : busyFor p e = busyFor p (s.entry n)) : (s.setEntry n e).busyCount p = s.busyCount p := by
  have := busyCount_setEntry s n e p
  rw [h] at this
  omega

theorem busyCount_pos {s : State} {n : EntryId} {p : PacerId} (h : busyFor p (s.entry n) = true) :
    0 < s.busyCount p := by
  have hn : n.val < s.outstanding.toList.length := by simp
  refine List.countP_pos_iff.mpr ⟨s.entry n, ?_, h⟩
  rw [← entry_eq_getElem s n hn]
  exact List.getElem_mem hn

theorem setEntry_same {s : State} {n : EntryId} {e : Entry} {q : PacerId}
    (h : busyFor q e = busyFor q (s.entry n)) : SameAt q s (s.setEntry n e) :=
  ⟨rfl, rfl, Iff.rfl, busyCount_setEntry_same h, Iff.rfl, rfl⟩

/-- An entry that was not BUSY and is not BUSY now is nothing to the law. -/
theorem setEntry_table {s : State} {n : EntryId} {e : Entry} (hs : (s.entry n).state ≠ .busy)
    (he : e.state ≠ .busy) : TableFrame s (s.setEntry n e) :=
  ⟨fun _ => rfl, rfl, rfl,
    fun q => busyCount_setEntry_same ((busyFor_of_not_busy he q).trans (busyFor_of_not_busy hs q).symm), rfl,
    fun _ => rfl⟩

/-- The change of an entry that counts for pacer `p` alone, before it and after it. -/
theorem Loose.setEntry {k k' : Nat} {p : PacerId} {s : State} (h : Loose k p s) {n : EntryId} {e : Entry}
    (others : ∀ q, q ≠ p → busyFor q e = busyFor q (s.entry n))
    (own : k' + (if busyFor p (s.entry n) then 1 else 0) = k + (if busyFor p e then 1 else 0)) :
    Loose k' p (s.setEntry n e) := by
  have hc := busyCount_setEntry s n e p
  have hf := h.base.flight
  refine ⟨fun q hq => (h.others q hq).same (setEntry_same (others q hq)), ?_, ⟨h.aborts.marks, h.aborts.item⟩,
    ⟨h.ordered.sorted, h.ordered.sweepOnce, h.ordered.sweepBusy⟩⟩
  refine ⟨?_, h.base.flightCap, h.base.qlen, h.base.idleQueue, h.base.idleFlight, h.base.sweeping, h.base.retireMode⟩
  show (s.pacer p).flight + k' = (s.setEntry n e).busyCount p
  omega

/-- A BUSY entry of pacer `p` ends, its FLIGHT having fallen (R101, R103). -/
theorem Loose.endEntry {p : PacerId} {s : State} (h : Loose 1 p s) {n : EntryId} {e : Entry}
    (hs : busyFor p (s.entry n) = true) (he : e.state ≠ .busy) : Loose 0 p (s.setEntry n e) := by
  refine h.setEntry (fun q hq => ?_) (by simp [hs, busyFor_of_not_busy he])
  have hp := ((busyFor_iff p _).mp hs).2
  rw [busyFor_of_not_busy he]
  simp [busyFor, hp, Ne.symm hq]

/-- An entry becomes BUSY for pacer `p`, its FLIGHT still to rise (R96). -/
theorem Loose.beginEntry {p : PacerId} {s : State} (h : Loose 0 p s) {n : EntryId} {e : Entry}
    (hs : (s.entry n).state ≠ .busy) (he : busyFor p e = true) : Loose 1 p (s.setEntry n e) := by
  refine h.setEntry (fun q hq => ?_) (by simp [he, busyFor_of_not_busy hs])
  have hp := ((busyFor_iff p _).mp he).2
  rw [busyFor_of_not_busy hs]
  simp [busyFor, hp, Ne.symm hq]

/-- FLIGHT falls while its entry is still BUSY (R101, R103). -/
theorem Loose.lowerFlight {p : PacerId} {s : State} (h : Loose 0 p s) {n : EntryId}
    (hs : busyFor p (s.entry n) = true) : Loose 1 p (lowerFlight p s) := by
  have hpos := busyCount_pos hs
  have hf := h.base.flight
  have hcap := h.base.flightCap
  refine h.setPacer (d := { s.pacer p with flight := (s.pacer p).flight - 1 })
    ⟨?_, fun hn => (Nat.sub_le _ _).trans (hcap hn), rfl, h.base.idleQueue, fun hi => ?_, Iff.rfl, h.base.retireMode,
      rfl⟩
  · show (s.pacer p).flight - 1 + 1 = (s.pacer p).flight + 0
    omega
  · show (s.pacer p).flight - 1 = 0
    rw [h.base.idleFlight hi]

/-! ### Traffic requests -/

/-- An admitted request joins the tail of a bindable pacer's queue (R64). -/
theorem TableLaw.joinQueue {s : State} (h : TableLaw s) {p : PacerId} (pkt : Packet)
    (hb : bindable (s.pacer p) = true) : Loose 0 p (joinQueue p pkt s) := by
  have hl := h.pacers p
  have hns : (s.pacer p).state ≠ .sweeping := fun e => by simp [bindable, e] at hb
  have hdisc : discarding (s.pacer p) = false := discarding_of_state (fun e => by simp [bindable, e] at hb)
  obtain ⟨hclean, hcount⟩ := h.unmarked_queue hdisc
  have hp : (Machine.joinQueue p pkt s).pacer p = { s.pacer p with qlen := (s.pacer p).qlen + 1 } :=
    State.setPacer_pacer_self _ p _
  have hq : (Machine.joinQueue p pkt s).queue p = s.queue p ++ [{ request := pkt, aborting := false }] :=
    s.setQueue_queue_self p _
  have hd : discarding ((Machine.joinQueue p pkt s).pacer p) = false := by rw [hp]; exact hdisc
  refine ⟨fun q hne => (h.pacers q).same ?_, ?_, ⟨?_, ?_⟩, ⟨h.sorted, h.sweepOnce, h.sweepBusy⟩⟩
  · exact ⟨congrArg Pacer.tableView (State.setPacer_pacer_ne _ hne _), tableGet_tableSet_ne _ hne _, Iff.rfl, rfl,
      Iff.rfl, rfl⟩
  · constructor <;> rw [hp]
    · exact hl.flight
    · exact hl.flightCap
    · rw [hq, List.length_append]
      exact congrArg (· + 1) hl.qlen
    · exact fun hi => absurd hi (not_or.mpr ⟨ne_vacant_of_bindable hb, hns⟩)
    · exact hl.idleFlight
    · exact hl.sweeping
    · exact hl.retireMode
  · have hall : ∀ x ∈ (Machine.joinQueue p pkt s).queue p, x.aborting = false := by
      intro x hx
      rw [hq] at hx
      rcases List.mem_append.mp hx with hx | hx
      · exact hclean x hx
      · rw [List.mem_singleton.mp hx]
    cases hx : (Machine.joinQueue p pkt s).queue p with
    | nil => trivial
    | cons x rest =>
      rw [hx] at hall
      exact ⟨(hall x List.mem_cons_self).trans hd.symm, fun y hy => hall y (List.mem_cons_of_mem x hy)⟩
  · rw [hd]
    exact hcount.trans (by simp)

/-- An admitted request leaves its pacer in its place: it joins the calendar when the terms come to hold (R48, R87). -/
theorem enqueue_tableLaw {s : State} {p : PacerId} (pkt : Packet) (h : TableLaw s) (hb : bindable (s.pacer p) = true) :
    TableLaw (enqueue p pkt s) := by
  have hj := h.joinQueue pkt hb
  have hp : (joinQueue p pkt s).pacer p = { s.pacer p with qlen := (s.pacer p).qlen + 1 } :=
    State.setPacer_pacer_self _ p _
  have hnd : (s.pacer p).state ≠ .draining := fun e => by simp [bindable, e] at hb
  unfold enqueue
  dsimp only
  split
  · rename_i hg
    obtain ⟨hlive, -, hf⟩ := hg
    have hd := hj.frame (TableFrame.setPacer _ p
      (c := { (joinQueue p pkt s).pacer p with
        due := laterTime ((joinQueue p pkt s).pacer p).due (joinQueue p pkt s).clock.pacingTime }) rfl)
    rw [State.modPacer_eq, ← settleCalendar_on]
    · refine hd.settle_tableLaw ?_
      rw [State.setPacer_pacer_self, hp]
      exact hnd
    · rw [State.setPacer_pacer_self, hp]
      exact (onTerms_iff _).mpr ⟨.inl hlive, Nat.succ_pos _, hf⟩
  · rename_i hg
    refine hj.tableLaw ?_ (by rw [hp]; exact hnd)
    have hcal : p ∈ (joinQueue p pkt s).calendar ↔ onTerms (s.pacer p) = true := (h.pacers p).calendar
    unfold CalendarRight
    rw [hcal, hp, onTerms_iff, onTerms_iff]
    constructor
    · exact fun ht => ⟨ht.1, Nat.succ_pos _, ht.2.2⟩
    · rintro ⟨hst, -, hf⟩
      refine ⟨hst, Nat.pos_of_ne_zero (fun h0 => hg ⟨?_, h0, hf⟩), hf⟩
      exact hst.resolve_right (fun hdr => hnd hdr.1)

theorem countRefusal_table (p : Option PacerId) (s : State) : TableFrame s (countRefusal p s) := by
  cases p with
  | none => exact .of_eq rfl rfl rfl rfl rfl rfl
  | some p => exact TableFrame.setPacer s p rfl

theorem refuseArrival_table (pkt : Packet) (cause : RefusalCause) (p : Option PacerId) (s : State) :
    TableFrame s (refuseArrival pkt cause p s) := by
  have hc := (bump_frame s cause.counter).trans (countRefusal_table p _)
  unfold refuseArrival
  dsimp only
  split
  · rw [State.returnTraffic_eq]
    exact hc.trans (.of_eq rfl rfl rfl rfl rfl rfl)
  · exact hc.trans (pushReply_table _ (fun _ hn => nomatch hn))

theorem intake_tableLaw {s : State} (pkt : Packet) (h : TableLaw s) : TableLaw (intake pkt s) := by
  unfold intake
  cases ha : judgeArrival s pkt.header with
  | admitted p => exact enqueue_tableLaw pkt h (judgeArrival_admitted ha).1
  | refused cause p => exact h.frame (refuseArrival_table pkt cause p s)

/-! ### Target responses, deadlines and quarantine -/

theorem returnResponses_table (s : State) (n : Nat) : TableFrame s (s.returnResponses n) := by
  rw [State.returnResponses_eq]
  exact .of_eq rfl rfl rfl rfl rfl rfl

theorem lateEntry_not_busy {e : Entry} (h : e.state = .quarantine ∨ e.state = .closing) :
    (lateEntry e).state ≠ .busy := by
  rcases h with h | h <;> simp [lateEntry, releaseEntry, h]

theorem releaseEntry_not_busy (e : Entry) : (releaseEntry e).state ≠ .busy := by simp [releaseEntry]

theorem matchedResponse_tableLaw {s : State} (pkt : Packet) {n : EntryId} (h : TableLaw s)
    (hb : (s.entry n).state = .busy) : TableLaw (matchedResponse pkt n s) := by
  have hc := countedResponse_frame (s.entry n).pacer (Pressure.ofCode pkt.header.pressure) s
  have hent : (countedResponse (s.entry n).pacer (Pressure.ofCode pkt.header.pressure) s).entry n = s.entry n :=
    hc.entry n
  have hbusy : busyFor (s.entry n).pacer (s.entry n) = true := (busyFor_iff _ _).mpr ⟨hb, rfl⟩
  have hl := ((h.frame hc.table).loose (s.entry n).pacer).lowerFlight (n := n) (by rw [hent]; exact hbusy)
  have he := hl.endEntry (n := n) (e := releaseEntry (s.entry n))
    (by rw [lowerFlight_eq, State.setPacer_entry, hent]; exact hbusy) (releaseEntry_not_busy _)
  unfold matchedResponse
  refine Loose.settle_drain ?_
  split
  · exact he.frame ((returnResponses_table _ 1).trans (bump_frame _ _))
  · exact he.frame (.of_eq rfl rfl rfl rfl rfl rfl)

theorem takeResponse_tableLaw {s : State} (pkt : Packet) (h : TableLaw s) : TableLaw (takeResponse pkt s) := by
  unfold takeResponse
  cases hf : responseFate s pkt with
  | stale => exact h.frame ((returnResponses_table s 1).trans (bump_frame _ _))
  | late n =>
    have hn := responseFate_late hf
    have hs : (s.entry n).state ≠ .busy := by rcases hn with hn | hn <;> rw [hn] <;> decide
    have f := setEntry_table hs (lateEntry_not_busy hn)
    exact h.frame ((f.trans (returnResponses_table _ 1)).trans (bump_frame _ _))
  | mismatch n =>
    exact h.frame (((returnResponses_table s 1).trans (bump_frame _ _)).trans (State.plainNotice_frame _ _).table)
  | matched n => exact matchedResponse_tableLaw pkt h (responseFate_matched hf)

theorem quarantineEntry_not_busy (s : State) (e : Entry) : (quarantineEntry s e).state ≠ .busy := by
  unfold quarantineEntry
  split <;> simp [releaseEntry]

theorem expireEntry_loose {p : PacerId} {s : State} (h : Loose 1 p s) {n : EntryId}
    (hb : busyFor p (s.entry n) = true) : Loose 0 p (expireEntry n s) := by
  unfold expireEntry
  dsimp only
  split
  · exact h.endEntry hb (quarantineEntry_not_busy s _)
  · exact (h.endEntry hb (by simp)).frame (pushReply_table _ (fun _ hn => nomatch hn))

theorem expire_tableLaw {s : State} {n : EntryId} (h : TableLaw s) (hb : (s.entry n).state = .busy) :
    TableLaw (expire n s) := by
  have hbusy : busyFor (s.entry n).pacer (s.entry n) = true := (busyFor_iff _ _).mpr ⟨hb, rfl⟩
  have ht := timeoutHalt_frame (s.entry n).pacer (lowerFlight (s.entry n).pacer s)
  have hn := State.plainNotice_frame ((timeoutHalt (s.entry n).pacer (lowerFlight (s.entry n).pacer s)).bump .timeouts)
    (.respTimeout (s.entry n).pacer (s.entry n).tag (s.entry n).upTxid)
  have hl := (((h.loose (s.entry n).pacer).lowerFlight hbusy).frame ht.table).frame
    ((bump_frame _ .timeouts).trans hn.table)
  refine (expireEntry_loose hl (n := n) ?_).settle_drain
  rw [hn.entry, State.bump_entry, ht.entry, lowerFlight_eq, State.setPacer_entry]
  exact hbusy

/-! ### Departures -/

/-- The head leaves a queue that holds no ABORTING mark (R54). -/
theorem Loose.removeHead {p : PacerId} {s : State} (h : Loose 0 p s) (hd : discarding (s.pacer p) = false)
    {x : HoldSlot} {rest : List HoldSlot} (hx : s.queue p = x :: rest) : Loose 0 p (removeHead p s) := by
  have hp := removeHead_pacer_self hx
  have hq := removeHead_queue_self hx
  have hd' : discarding ((Machine.removeHead p s).pacer p) = false := by rw [hp]; exact hd
  have hm := h.aborts.marks
  have hi := h.aborts.item
  rw [hx] at hm
  refine ⟨fun q hne => (h.others q hne).same (removeHead_same hne s), h.base.removeHead hx, ⟨?_, ?_⟩,
    removeHead_ordered p h.ordered⟩
  · rw [hq]
    cases rest with
    | nil => trivial
    | cons y ys =>
      exact ⟨(hm.2 y List.mem_cons_self).trans hd'.symm, fun z hz => hm.2 z (List.mem_cons_of_mem y hz)⟩
  · rw [removeHead_replies, hi, hd, hd']
    simp

/-- The departing READ or WRITE takes an entry, and FLIGHT, below FLIGHT_CAP, rises with it (R96). -/
theorem Loose.allocate {p : PacerId} {s : State} (h : Loose 0 p s) {n : EntryId} (req : Packet)
    (hn : (s.entry n).state = .free) (hs : (s.pacer p).state = .live ∨ (s.pacer p).state = .draining)
    (hf : (s.pacer p).flight < (s.pacer p).cfg.flightCap.toNat) : Loose 0 p (allocate p n req s) := by
  unfold Machine.allocate
  refine Loose.setPacer (k := 1) (h.beginEntry (by rw [hn]; decide) ?_) ?_
  · simp [busyFor]
  · have hidle : ¬((s.pacer p).state = .vacant ∨ (s.pacer p).state = .staged ∨ (s.pacer p).state = .sweeping) := by
      rcases hs with hs | hs <;> simp [hs]
    exact ⟨rfl, fun _ => hf, rfl, h.base.idleQueue, fun hi => absurd hi hidle, Iff.rfl, h.base.retireMode, rfl⟩

theorem sendRequest_loose {p : PacerId} {s : State} (h : Loose 0 p s) (req : Packet)
    (hs : (s.pacer p).state = .live ∨ (s.pacer p).state = .draining)
    (hf : (s.pacer p).flight < (s.pacer p).cfg.flightCap.toNat) : Loose 0 p (sendRequest p req s) := by
  unfold sendRequest
  split
  · exact h.frame (.of_eq rfl rfl rfl rfl rfl rfl)
  · split
    · rename_i n hn
      exact (h.allocate req (lowestFree_free hn) hs hf).frame (.of_eq rfl rfl rfl rfl rfl rfl)
    · exact h

theorem depart_tableLaw {s : State} {p : PacerId} {x : HoldSlot} {rest : List HoldSlot} (h : TableLaw s)
    (hw : winner s = some p) (hx : s.queue p = x :: rest) : TableLaw (depart p x.request s) := by
  have departs (u : State) (f : TableFrame s u) (hu : u.queue p = x :: rest) :
      Loose 0 p (consumeRequestCredit (sendRequest p x.request (removeHead p u))) := by
    have ht := (h.pacers p).calendar.mp (winner_mem hw)
    rw [← onTerms_of_view (f.context p), onTerms_iff] at ht
    obtain ⟨hs, -, hf⟩ := ht
    have hd : discarding (u.pacer p) = false := by
      rcases hs with hs | ⟨-, hm⟩
      · exact discarding_of_state (by rw [hs]; decide)
      · simp [discarding, hm]
    have hr := ((h.frame f).loose p).removeHead hd hu
    have hst : ((removeHead p u).pacer p).state = .live ∨ ((removeHead p u).pacer p).state = .draining := by
      rw [removeHead_pacer_self hu]
      exact hs.imp id And.left
    have hroom : ((removeHead p u).pacer p).flight < ((removeHead p u).pacer p).cfg.flightCap.toNat := by
      rw [removeHead_pacer_self hu]
      exact hf
    exact (sendRequest_loose hr x.request hst hroom).frame (.of_eq rfl rfl rfl rfl rfl rfl)
  unfold depart
  refine Loose.settle_drain (Loose.frame ?_ (TableFrame.setPacer _ p rfl))
  split
  · exact departs _ (idleRule_frame p s).table (by rw [(idleRule_frame p s).queue]; exact hx)
  · exact departs s (.of_eq rfl rfl rfl rfl rfl rfl) hx

/-! ### The Sweeper (R88 to R90) -/

/-- The cursor's move within a sweep. -/
theorem TableLaw.moveCursor {s : State} (h : TableLaw s) {c : SweepCursor} (hc : c ≠ .idle)
    (hs : sweepList (s.setCursor c) = sweepList s) : TableLaw (s.setCursor c) := by
  refine ⟨fun q => (h.pacers q).same ⟨rfl, rfl, Iff.rfl, rfl, by rw [hs], rfl⟩, h.sorted, ?_, fun hi => absurd hi hc⟩
  rw [hs]
  exact h.sweepOnce

theorem defaultPacerStep_tableLaw {s : State} {p : PacerId} (h : TableLaw s) (hc : s.sweeper.cursor = .defaultStep p) :
    TableLaw (defaultPacerStep p s) := by
  have h0 : TableLaw { s with defaultPacer := if s.defaultPacer = some p then none else s.defaultPacer } :=
    h.frame (.of_eq rfl rfl rfl rfl rfl rfl)
  exact h0.moveCursor (by simp) (by simp [sweepList, hc])

/-- The Sweeper's taking of the next pacer changes nothing the law says of a pacer (R88). -/
theorem startSweep_tableLaw {s : State} (hp : ∀ q, PacerLaw s q) (hc : s.calendar.Pairwise (· < ·))
    (hs : (sweepList s).Nodup) : TableLaw (startSweep s) := by
  have f := startSweep_frame s
  have fr := congrArg State.replies f
  have fq := congrArg State.queues f
  have fc := congrArg State.calendar f
  have fo := congrArg State.outstanding f
  have same (q : PacerId) : SameAt q s (startSweep s) := by
    constructor
    · simp only [State.pacer, startSweep_pacers]
    · exact congrArg (tableGet · q) fq
    · exact iff_of_eq (congrArg (q ∈ ·) fc)
    · exact congrArg (fun o => (Vector.toList o).countP (busyFor q)) fo
    · rw [sweepList_startSweep]
    · exact congrArg (List.count (.aborted q)) fr
  refine ⟨fun q => (hp q).same (same q), ?_, by rwa [sweepList_startSweep], startSweep_busy s⟩
  exact Eq.mpr (congrArg (List.Pairwise (· < ·)) fc) hc

/-- A SWEEPING pacer, with nothing queued and nothing in flight, made VACANT as its sweep ends (R90). -/
theorem PacerLaw.vacate {s : State} {p : PacerId} (h : PacerLaw s p) (hs : (s.pacer p).state = .sweeping)
    (hn : p ∉ s.sweeper.queue) :
    PacerLaw ((s.modPacer p (fun c => { c with state := .vacant })).setCursor .idle) p := by
  have hq := h.idleQueue (.inr hs)
  have hf := h.idleFlight (.inr (.inr hs))
  have hr : (s.pacer p).retireMode = none := by
    have := mt h.retireMode.mp (by rw [hs]; decide)
    simpa using this
  have hoff : p ∉ s.calendar := fun hm => by
    have := h.calendar.mp hm
    simp [onTerms, hs] at this
  have hqueue : s.queue p = [] := List.length_eq_zero_iff.mp (h.qlen ▸ hq)
  have hbusy : s.busyCount p = 0 := by rw [← h.flight, hf]
  have hitem := h.abortedItem
  simp only [hqueue, ne_eq, not_true_eq_false, and_false, if_false] at hitem
  let t := (s.modPacer p (fun c => { c with state := .vacant })).setCursor .idle
  have hp : t.pacer p = { s.pacer p with state := .vacant } := s.setPacer_pacer_self p _
  have htq : t.queue p = [] := hqueue
  have htc : t.calendar = s.calendar := rfl
  have hts : sweepList t = s.sweeper.queue := rfl
  have htb : t.busyCount p = 0 := hbusy
  have htr : t.replies.count (.aborted p) = 0 := hitem
  show PacerLaw t p
  constructor <;> simp [hp, htq, htc, hts, htb, htr, hq, hf, hr, hn, hoff, onTerms, drained, marksRight]

theorem TableFrame.setCursor {s t : State} (f : TableFrame s t) (c : SweepCursor) :
    TableFrame (s.setCursor c) (t.setCursor c) :=
  ⟨f.context, f.queues, f.calendar, f.busy, by simp only [State.setCursor, f.sweeper], f.aborted⟩

/-- At the end of its sweep the pacer is VACANT and off the sweep queue, and the next sweep begins (R90). -/
theorem endSweep_tableLaw {s : State} {p : PacerId} {k : Tag} (h : TableLaw s) (hc : s.sweeper.cursor = .visit p k) :
    TableLaw (endSweep p s) := by
  have hlist : sweepList s = p :: s.sweeper.queue := by simp [sweepList, hc]
  have honce := h.sweepOnce
  rw [hlist, List.nodup_cons] at honce
  have hs : (s.pacer p).state = .sweeping :=
    (h.pacers p).sweeping.mpr (by rw [hlist]; exact List.mem_cons_self)
  have hv (q : PacerId) : PacerLaw ((s.modPacer p (fun c => { c with state := .vacant })).setCursor .idle) q := by
    rcases eq_or_ne q p with rfl | hq
    · exact (h.pacers q).vacate hs honce.1
    · refine (h.pacers q).same ⟨?_, rfl, Iff.rfl, rfl, ?_, rfl⟩
      · exact congrArg Pacer.tableView (s.setPacer_pacer_ne hq _)
      · rw [hlist, List.mem_cons]
        exact (or_iff_right hq).symm
  have fn := (State.plainNotice_frame (s.modPacer p (fun c => { c with state := .vacant }))
    (.retireDone p)).table.setCursor .idle
  refine startSweep_tableLaw (fun q => (hv q).same (fn.same q)) ?_ ?_
  · rw [fn.calendar]
    exact h.sorted
  · rw [sweepList_congr fn.sweeper]
    exact honce.2

theorem visitEntry_tableLaw {s : State} {p : PacerId} {k : Tag} (h : TableLaw s) (hc : s.sweeper.cursor = .visit p k) :
    TableLaw (visitEntry p k s) := by
  have hb (b : Option PacerId) : TableLaw (s.setBinding k b) := h.frame (.of_eq rfl rfl rfl rfl rfl rfl)
  unfold visitEntry
  dsimp only
  split
  · exact endSweep_tableLaw (k := k) (hb _) hc
  · exact (hb _).moveCursor (by simp) (by simp [sweepList, State.setCursor, hc])

/-! ### The placement of items (R119, R120) -/

/-- The oldest item leaves the Reply List and its response enters the buffer. -/
def itemTaken (pkt : Packet) (rest : List ReplyItem) (s : State) : State :=
  { s with responses := s.responses ++ [{ packet := pkt, origin := .bridge }], replies := rest }

theorem placeItem_eq (i : ReplyItem) (rest : List ReplyItem) (pkt : Packet) (s : State) :
    placeItem i rest pkt s = releaseResource (itemTaken pkt rest s) i := rfl

theorem itemTaken_table {s : State} {i : ReplyItem} {rest : List ReplyItem} (pkt : Packet) (hr : s.replies = i :: rest)
    (hi : ∀ q, i ≠ .aborted q) : TableFrame s (itemTaken pkt rest s) := by
  refine ⟨fun _ => rfl, rfl, rfl, fun _ => rfl, rfl, fun q => ?_⟩
  rw [hr, List.count_cons_of_ne (hi q)]
  rfl

/-- The ABORTED item's head leaves, and the queue, still to be discarded, has no mark and no item (R69, R70). -/
theorem TableLaw.takeAborted {s : State} (h : TableLaw s) {p : PacerId} {rest : List ReplyItem} (pkt : Packet)
    (hr : s.replies = .aborted p :: rest) : Unmarked p (removeHead p (itemTaken pkt rest s)) := by
  have hl := h.pacers p
  have hitem := hl.abortedItem
  rw [hr, List.count_cons_self] at hitem
  have hg : discarding (s.pacer p) = true ∧ s.queue p ≠ [] := by
    by_contra hn
    rw [if_neg hn] at hitem
    cases hitem
  rw [if_pos hg] at hitem
  obtain ⟨hd, hne⟩ := hg
  obtain ⟨x, tail, hx⟩ := List.exists_cons_of_ne_nil hne
  have hx' : (itemTaken pkt rest s).queue p = x :: tail := hx
  have hm := hl.marks
  rw [hx] at hm
  have hoff : p ∉ s.calendar := h.not_mem_calendar (onTerms_of_discarding hd)
  obtain ⟨hb, -, -, -⟩ := (pacerLaw_iff s p).mp hl
  have hb' : PacerBase 0 (itemTaken pkt rest s) p :=
    ⟨hb.flight, hb.flightCap, hb.qlen, hb.idleQueue, hb.idleFlight, hb.sweeping, hb.retireMode⟩
  refine ⟨fun q hq => (h.pacers q).same (SameAt.trans ?_ (removeHead_same hq _)), hb'.removeHead hx', ?_, ?_, ?_, ?_,
    removeHead_ordered p ⟨h.sorted, h.sweepOnce, h.sweepBusy⟩⟩
  · have hne' : ReplyItem.aborted p ≠ .aborted q := fun e => hq (ReplyItem.aborted.inj e).symm
    refine ⟨rfl, rfl, Iff.rfl, rfl, Iff.rfl, ?_⟩
    rw [hr, List.count_cons_of_ne hne']
    rfl
  · rw [removeHead_pacer_self hx']
    exact hd
  · rw [removeHead_queue_self hx']
    exact hm.2
  · rw [removeHead_replies]
    exact Nat.succ.inj hitem
  · rw [removeHead_calendar]
    exact hoff

/-- After the head has left, the drain is checked, and a pacer still DRAINING has its new head processed (R70). -/
theorem Unmarked.releaseAborted {p : PacerId} {s : State} (h : Unmarked p s) :
    TableLaw (if ((drainCheck p s).pacer p).state = .draining then Machine.processDiscard p (drainCheck p s)
      else drainCheck p s) := by
  by_cases hd : drained (s.pacer p) = true
  · have hq : s.queue p = [] := List.length_eq_zero_iff.mp (h.base.qlen ▸ ((drained_iff _).mp hd).2.1)
    have hs : ((drainCheck p s).pacer p).state ≠ .draining := by
      rw [drainCheck_pacer, if_pos ⟨rfl, hd⟩]
      exact fun e => nomatch e
    rw [if_neg hs]
    exact (h.loose_of_empty hq).drainCheck_tableLaw h.calendarRight
  · have hn : drainCheck p s = s := if_neg hd
    rw [hn, if_pos ((discarding_iff _).mp h.discards).1]
    exact h.processDiscard

/-- An item of an entry stands only while the entry is CLOSING (R104, R118). -/
theorem OutstandingLaw.givenUp_closing {s : State} (h : OutstandingLaw s) {cause : CloseCause} {n : EntryId}
    (hi : .givenUp cause n ∈ s.replies) : (s.entry n).state = .closing := by
  refine (h n).closeCause.mp ?_
  rw [(h n).itemCause cause hi]
  rfl

theorem entryAfterPlacement_not_busy (s : State) (e : Entry) : (entryAfterPlacement s e).state ≠ .busy := by
  unfold entryAfterPlacement
  split
  · exact quarantineEntry_not_busy s e
  · exact releaseEntry_not_busy e

theorem releaseMgmt_tableLaw {s : State} (h : TableLaw s) : TableLaw (releaseMgmt s) := by
  have hf : TableLaw { freeMgmtHead s with agent := { (freeMgmtHead s).agent with state := .ready } } :=
    (h.frame (freeMgmtHead_table s)).frame (.of_eq rfl rfl rfl rfl rfl rfl)
  exact agentLook_tableLaw hf

theorem placeItem_tableLaw {s : State} {i : ReplyItem} {rest : List ReplyItem} (pkt : Packet) (ho : OutstandingLaw s)
    (h : TableLaw s) (hr : s.replies = i :: rest) : TableLaw (placeItem i rest pkt s) := by
  rw [placeItem_eq]
  cases i with
  | refusal req cause p =>
    have h0 := h.frame (itemTaken_table pkt hr (fun _ hn => nomatch hn))
    unfold releaseResource
    rw [State.returnTraffic_eq]
    exact h0.frame (.of_eq rfl rfl rfl rfl rfl rfl)
  | aborted p => exact ((h.takeAborted pkt hr).frame (bump_frame _ .aborted)).releaseAborted
  | givenUp cause n =>
    have h0 := h.frame (itemTaken_table pkt hr (fun _ hn => nomatch hn))
    have hs : (s.entry n).state = .closing := ho.givenUp_closing (cause := cause) (by rw [hr]; exact List.mem_cons_self)
    have hnb : ((itemTaken pkt rest s).entry n).state ≠ .busy := fun e => by
      rw [show (itemTaken pkt rest s).entry n = s.entry n from rfl, hs] at e
      cases e
    exact h0.frame (setEntry_table hnb (entryAfterPlacement_not_busy _ _))
  | mgmt st d b =>
    have h0 := h.frame (itemTaken_table pkt hr (fun _ hn => nomatch hn))
    exact releaseMgmt_tableLaw h0

/-! ### Link resets (R72, R106, R107, R170) -/

theorem resetPortI_table (s : State) : TableFrame s (resetPortI s) := by
  refine TableFrame.trans ?_ (State.plainNotice_frame _ _).table
  exact .of_eq rfl rfl rfl rfl rfl rfl

theorem resetPortT_table (s : State) : TableFrame s (resetPortT s) := by
  refine TableFrame.trans ?_ (State.plainNotice_frame _ _).table
  exact .of_eq rfl rfl rfl rfl rfl rfl

theorem entryAfterResetI_busyFor (s : State) (q : PacerId) (e : Entry) :
    busyFor q (entryAfterResetI s e) = busyFor q e := by
  unfold entryAfterResetI
  cases hs : e.state with
  | busy => simp [busyFor, hs]
  | closing =>
    rw [busyFor_of_not_busy (e := e) (by simp [hs])]
    dsimp only
    split
    · exact busyFor_of_not_busy (quarantineEntry_not_busy s e) q
    · exact busyFor_of_not_busy (releaseEntry_not_busy e) q
  | _ => rfl

theorem entryAfterResetT_not_busy (e : Entry) : (entryAfterResetT e).state ≠ .busy := by
  unfold entryAfterResetT
  cases hs : e.state with
  | busy => dsimp only; split <;> simp [releaseEntry]
  | _ => simp [hs, releaseEntry]

theorem busyCount_map {s t : State} {f : Entry → Entry} (h : t.outstanding = s.outstanding.map f) (q : PacerId) :
    t.busyCount q = s.outstanding.toList.countP (fun e => busyFor q (f e)) := by
  have hc : t.busyCount q = t.outstanding.toList.countP (busyFor q) := rfl
  rw [hc, h, Vector.toList_map, List.countP_map]
  rfl

/-- The blocks after an I-port link reset, before its drains complete (R72, R107, R122, R157). -/
def clearedI (s : State) : State :=
  let s := dropQueues (resetPortI s)
  dropRequests (dropResponses { s with outstanding := s.outstanding.map (entryAfterResetI s) })

theorem linkResetI_eq (s : State) : linkResetI s = resetAlert (completeDrains (clearedI s)) := rfl

/-- With every queue, the calendar and the Reply List empty, no pacer has anything left but what is in flight. -/
theorem clearedI_butDrains {s : State} (h : TableLaw s) : ButDrains (fun _ => True) (clearedI s) := by
  have h0 : TableLaw (resetPortI s) := h.frame (resetPortI_table s)
  have hp (q : PacerId) : (clearedI s).pacer q = { (resetPortI s).pacer q with qlen := 0 } := by
    simp [clearedI, State.pacer, dropRequests, dropResponses, dropQueues]
  have hq (q : PacerId) : (clearedI s).queue q = [] := by
    simp [clearedI, State.queue, dropRequests, dropResponses, dropQueues]
  have hc : (clearedI s).calendar = [] := by simp [clearedI, dropRequests, dropResponses, dropQueues]
  have hr : (clearedI s).replies = [] := rfl
  have hs : (clearedI s).sweeper = (resetPortI s).sweeper := by
    simp [clearedI, dropRequests, dropResponses, dropQueues]
  have hb (q : PacerId) : (clearedI s).busyCount q = (resetPortI s).busyCount q := by
    have ho : (clearedI s).outstanding =
        (resetPortI s).outstanding.map (entryAfterResetI (dropQueues (resetPortI s))) := by
      simp [clearedI, dropRequests, dropResponses, dropQueues]
    rw [busyCount_map ho]
    simp only [entryAfterResetI_busyFor]
    rfl
  refine ⟨fun q => ?_, fun q hn => absurd trivial hn, ?_⟩
  · have hl := h0.pacers q
    refine ⟨?_, ⟨by rw [hq]; trivial, by simp [hr, hq]⟩, ?_⟩
    · constructor <;> rw [hp]
      · rw [hb]; exact hl.flight
      · exact hl.flightCap
      · rw [hq]; rfl
      · exact fun _ => rfl
      · exact hl.idleFlight
      · rw [sweepList_congr hs]; exact hl.sweeping
      · exact hl.retireMode
    · unfold CalendarRight
      rw [hc, hp, onTerms_iff]
      simp
  · refine ⟨by rw [hc]; exact List.Pairwise.nil, ?_, ?_⟩
    · rw [sweepList_congr hs]; exact h0.sweepOnce
    · rw [hs]; exact h0.sweepBusy

theorem linkResetI_tableLaw {s : State} (h : TableLaw s) : TableLaw (linkResetI s) := by
  rw [linkResetI_eq]
  exact (clearedI_butDrains h).completeDrains.frame (resetAlert_frame _).table

/-- The blocks after a T-port link reset, before its drains complete (R60, R106). -/
def clearedT (s : State) : State :=
  let s := resetPortT s
  let s := { s with replies := s.replies ++ (lostEntries s).map (ReplyItem.givenUp .linkLost) }
  rejoinAll
    { s with
      outstanding := s.outstanding.map entryAfterResetT,
      pacers := s.pacers.map (fun c => { c with flight := 0 }) }

theorem linkResetT_eq (s : State) : linkResetT s = completeDrains (clearedT s) := rfl

theorem onTerms_flight_zero {c : Pacer} (h : onTerms c = true) : onTerms { c with flight := 0 } = true := by
  obtain ⟨hs, hq, hf⟩ := (onTerms_iff c).mp h
  exact (onTerms_iff _).mpr ⟨hs, hq, Nat.zero_lt_of_lt hf⟩

/-- No entry is BUSY and every FLIGHT is 0; the pacers whose terms hold now are the calendar's own and those that FLIGHT
had kept off it. -/
theorem clearedT_butDrains {s : State} (h : TableLaw s) : ButDrains (fun _ => True) (clearedT s) := by
  have h0 : TableLaw (resetPortT s) := h.frame (resetPortT_table s)
  have hp (q : PacerId) : (clearedT s).pacer q = { (resetPortT s).pacer q with flight := 0 } := by
    simp [clearedT, State.pacer, rejoinAll]
  have hq (q : PacerId) : (clearedT s).queue q = (resetPortT s).queue q := rfl
  have hs : (clearedT s).sweeper = (resetPortT s).sweeper := rfl
  have hb (q : PacerId) : (clearedT s).busyCount q = 0 := by
    have ho : (clearedT s).outstanding = (resetPortT s).outstanding.map entryAfterResetT := rfl
    rw [busyCount_map ho]
    simp [busyFor_of_not_busy (entryAfterResetT_not_busy _)]
  have hr (q : PacerId) : (clearedT s).replies.count (.aborted q) = (resetPortT s).replies.count (.aborted q) := by
    have hl : (clearedT s).replies =
        (resetPortT s).replies ++ (lostEntries (resetPortT s)).map (ReplyItem.givenUp .linkLost) := rfl
    rw [hl, List.count_append, Nat.add_eq_left, List.count_eq_zero]
    simp
  have hl : (clearedT s).calendar = (List.finRange 128).filter
      (fun p => (resetPortT s).calendar.contains p || onTerms ((clearedT s).pacer p)) := rfl
  have hc (q : PacerId) : q ∈ (clearedT s).calendar ↔
      q ∈ (resetPortT s).calendar ∨ onTerms ((clearedT s).pacer q) = true := by
    rw [hl, List.mem_filter]
    simp
  refine ⟨fun q => ?_, fun q hn => absurd trivial hn, ?_⟩
  · have hl := h0.pacers q
    refine ⟨?_, ⟨?_, ?_⟩, ?_⟩
    · constructor <;> rw [hp]
      · rw [hb]
      · exact fun _ => Nat.zero_le _
      · exact hl.qlen
      · exact hl.idleQueue
      · exact fun _ => rfl
      · rw [sweepList_congr hs]; exact hl.sweeping
      · exact hl.retireMode
    · rw [hp, hq]
      exact marksRight_congr rfl hl.marks
    · rw [hr, hp, hq]
      exact hl.abortedItem
    · unfold CalendarRight
      rw [hc, or_iff_right_iff_imp, hp]
      exact fun hm => onTerms_flight_zero (hl.calendar.mp hm)
  · refine ⟨by rw [hl]; exact (List.pairwise_lt_finRange 128).filter _, ?_, ?_⟩
    · rw [sweepList_congr hs]; exact h0.sweepOnce
    · rw [hs]; exact h0.sweepBusy

theorem linkReset_tableLaw {s : State} (p : PortId) (h : TableLaw s) : TableLaw (linkReset p s) := by
  cases p with
  | i => exact linkResetI_tableLaw h
  | t =>
    rw [linkReset, linkResetT_eq]
    exact (clearedT_butDrains h).completeDrains

/-! ### The step -/

theorem sendResponse_table (r : BufferedResponse) (rest : List BufferedResponse) (s : State) :
    TableFrame s (sendResponse r rest s) := by
  unfold sendResponse
  dsimp only
  split
  · rw [State.returnResponses_eq]
    exact .of_eq rfl rfl rfl rfl rfl rfl
  · exact .of_eq rfl rfl rfl rfl rfl rfl

theorem Event.tableLaw {s t : State} (e : Event s t) (ho : OutstandingLaw s) (h : TableLaw s) : TableLaw t := by
  have port (s t : State) (f : PortFrame s t) (hs : TableLaw s) : TableLaw t := hs.frame f.table
  cases e with
  | powersOn w g =>
    exact (((powerOn_tableLaw true w g).frame (enterInitWait_frame .i _).table).frame
      (enterInitWait_frame .t _).table).frame (.of_eq rfl rfl rfl rfl rfl rfl)
  | traffic => exact intake_tableLaw _ (h.frame (.of_eq rfl rfl rfl rfl rfl rfl))
  | mgmt => exact agentLook_tableLaw (h.frame (.of_eq rfl rfl rfl rfl rfl rfl))
  | response => exact takeResponse_tableLaw _ (h.frame (.of_eq rfl rfl rfl rfl rfl rfl))
  | credit => exact h.frame (takeCredit_frame _ _ s).table
  | bringsUp => exact h.frame (bringUp_frame _ _ s).table
  | faults => exact faultSequence_induction port (fun p _ => linkReset_tableLaw p) _ h
  | takesReset => exact takeReset_induction port (fun p _ => linkReset_tableLaw p) _ h
  | resetSent => exact h.frame ((setLink_frame s _ _).trans (enterInitWait_frame _ _)).table
  | resends => exact h.frame (sendInit_frame _ s).table
  | sendsCredit which => exact h.frame (creditSendOnce_frame which s).table
  | departs hw hx => exact depart_tableLaw h hw hx
  | expires hr => exact expire_tableLaw h (deadlineReached_busy hr)
  | quarantineEnds hr =>
    exact h.frame (setEntry_table (by rw [quarantineReached_state hr]; decide) (releaseEntry_not_busy _))
  | sweepsDefault hc => exact defaultPacerStep_tableLaw h hc
  | sweepsEntry hc => exact visitEntry_tableLaw h hc
  | places hr => exact placeItem_tableLaw _ ho h hr
  | sends => exact h.frame (sendResponse_table _ _ s)
  | _ => exact h.frame (.of_eq rfl rfl rfl rfl rfl rfl)

/-- The outstanding law does not read the queue of commands. -/
theorem OutstandingLaw.withPending {s : State} (h : OutstandingLaw s) (rest : List Instr) :
    OutstandingLaw { s with pending := rest } := fun n =>
  ⟨(h n).deadline, (h n).closeCause, (h n).quarantineEnd, (h n).freeOrphan, (h n).freeFlag, (h n).lostFlag, (h n).item,
    (h n).itemCause⟩

/-- Settles O4: every step is an event, and every event keeps the law; the outstanding law says that the entry of a
placed item is not BUSY. -/
theorem everyStepKeepsTheTableLaw : Obligations.Every_step_keeps_the_table_law := by
  intro s t ho hs hstep
  obtain ⟨rest, e⟩ := step_event hstep
  exact e.tableLaw (ho.withPending rest) (hs.frame (.of_eq rfl rfl rfl rfl rfl rfl))

end Sys2Proof.Machine
end

section
/-!
PROOFS. Spacing adaptation: the two steps of SPACING (R23, R24), a counted response by its mark (R22, R26 to R30), and
the crossing check (R36, R37).
-/

namespace Sys2Proof.Machine

/-! ### The increase and the decrease step -/

/-- The increase step's test is the maximum of R23. -/
theorem increaseStep_eq (c : Pacer) :
    increaseStep c =
      { c with
        spacing :=
          BitVec.ofNat 16 (max c.cfg.spaceMin.toNat (c.spacing.toNat - stepSize c.spacing c.cfg.upShift)) } := by
  unfold increaseStep
  dsimp only
  split
  · rw [max_eq_left (by omega), BitVec.ofNat_toNat, BitVec.setWidth_eq]
  · rw [max_eq_right (by omega)]

/-- The decrease step's test is the minimum of R24. -/
theorem decreaseStep_eq (c : Pacer) :
    decreaseStep c =
      { c with
        spacing :=
          BitVec.ofNat 16 (min c.cfg.spaceMax.toNat (c.spacing.toNat + stepSize c.spacing c.cfg.downShift)) } := by
  unfold decreaseStep
  dsimp only
  split
  · rw [min_eq_left (by omega), BitVec.ofNat_toNat, BitVec.setWidth_eq]
  · rw [min_eq_right (by omega)]

/-- Below SPACE_MIN no step leads, so the maximum is SPACE_MIN itself. -/
theorem increaseStep_at_min {c : Pacer} (h : c.spacing = c.cfg.spaceMin) : increaseStep c = c := by
  rw [increaseStep_eq, ← h, max_eq_left (Nat.sub_le _ _), BitVec.ofNat_toNat, BitVec.setWidth_eq]

theorem decreaseStep_at_max {c : Pacer} (h : c.spacing = c.cfg.spaceMax) : decreaseStep c = c := by
  rw [decreaseStep_eq, ← h, min_eq_left (Nat.le_add_right _ _), BitVec.ofNat_toNat, BitVec.setWidth_eq]

/-- Settles O15: the tests of the two steps are the maximum and the minimum of R23 and R24. -/
theorem increaseAndDecreaseStepsMoveSpacing : Obligations.Increase_and_decrease_steps_move_spacing := fun c =>
  ⟨increaseStep_eq c, decreaseStep_eq c, increaseStep_at_min, decreaseStep_at_max⟩

/-! ### A counted response -/

theorem countedResponse_of_not_adapts {p : PacerId} {s : State} (m : Pressure) (h : adapts (s.pacer p) = false) :
    countedResponse p m s = s := by
  simp [countedResponse, h]

theorem countedResponse_heavy {p : PacerId} {s : State} (h : adapts (s.pacer p) = true) :
    countedResponse p .heavy s =
      crossingCheck p (s.setPacer p (restarted (s.pacer p) (decreaseStep (s.pacer p)).spacing)) := by
  simp only [countedResponse, h, if_true]
  rfl

theorem countedResponse_halt {p : PacerId} {s : State} (h : adapts (s.pacer p) = true) :
    countedResponse p .halt s =
      crossingCheck p (s.setPacer p (restarted (s.pacer p) (s.pacer p).cfg.spaceMax)) := by
  simp only [countedResponse, h, if_true]
  rfl

/-- The judgement of a closing window moves SPACING alone, and the restart follows it (R25, R30). -/
theorem windowRestart_windowVerdict (c : Pacer) :
    windowRestart (windowVerdict c) =
      restarted c
        (if c.cfg.markLimit.toNat ≤ c.winMarks then (decreaseStep c).spacing
          else if c.winMarks = 0 ∧ c.demand = true then (increaseStep c).spacing
          else c.spacing) := by
  unfold windowVerdict
  split
  · rfl
  · split <;> rfl

/-- Within the window a response is only tallied (R27). -/
theorem windowResponse_open {p : PacerId} {s : State} (marked : Bool)
    (h : (s.pacer p).winCount + 1 ≠ (s.pacer p).cfg.window.toNat) :
    windowResponse p marked s = s.setPacer p (tally marked (s.pacer p)) :=
  if_neg h

/-- The response that fills the window closes it (R30). -/
theorem windowResponse_closing {p : PacerId} {s : State} (marked : Bool)
    (h : (s.pacer p).winCount + 1 = (s.pacer p).cfg.window.toNat) :
    windowResponse p marked s =
      crossingCheck p (s.setPacer p (windowRestart (windowVerdict (tally marked (s.pacer p))))) :=
  if_pos h

/-- CLEAR and LIGHT go to the window, LIGHT as a mark (R26, R27). -/
theorem countedResponse_of_tallied {p : PacerId} {s : State} {m : Pressure} {k : Nat}
    (hm : (m = .clear ∧ k = 0) ∨ (m = .light ∧ k = 1)) (h : adapts (s.pacer p) = true) :
    ∃ marked : Bool, k = (if marked then 1 else 0) ∧ countedResponse p m s = windowResponse p marked s := by
  rcases hm with ⟨rfl, rfl⟩ | ⟨rfl, rfl⟩
  · exact ⟨false, rfl, if_pos h⟩
  · exact ⟨true, rfl, if_pos h⟩

/-- Settles O16, mark by mark. -/
theorem countedResponseActsByItsMark : Obligations.Counted_response_acts_by_its_mark := by
  intro p s
  refine ⟨fun m h => countedResponse_of_not_adapts m h, countedResponse_heavy, countedResponse_halt,
    fun m k hm h => ?_⟩
  obtain ⟨marked, rfl, hr⟩ := countedResponse_of_tallied hm h
  rw [hr]
  refine ⟨fun hw => windowResponse_open marked hw, fun hw => ?_⟩
  rw [windowResponse_closing marked hw, windowRestart_windowVerdict]
  rfl

/-! ### The crossing check -/

theorem crossingCheck_goesSlow {p : PacerId} {s : State} (h : crossingResult (s.pacer p) = .goesSlow) :
    crossingCheck p s =
      crossing p (.slow p (s.pacer p).spacing) (s.setPacer p { s.pacer p with slow := true }) := by
  simp only [crossingCheck, h, State.modPacer_eq]

theorem crossingCheck_recovers {p : PacerId} {s : State} (h : crossingResult (s.pacer p) = .recovers) :
    crossingCheck p s =
      crossing p (.recovered p (s.pacer p).spacing) (s.setPacer p { s.pacer p with slow := false }) := by
  simp only [crossingCheck, h, State.modPacer_eq]

theorem crossingCheck_stays {p : PacerId} {s : State} (h : crossingResult (s.pacer p) = .stays) :
    crossingCheck p s = s := by
  simp only [crossingCheck, h]

/-- The check of a pacer that is not SLOW (R36). -/
theorem crossingResult_of_not_slow {c : Pacer} (h : c.slow = false) :
    crossingResult c = if c.cfg.slowAt ≠ 0 ∧ c.cfg.slowAt.toNat < c.spacing.toNat then .goesSlow else .stays := by
  by_cases ha : c.cfg.slowAt = 0 <;> simp [crossingResult, h, ha, ite_and]

/-- The check of a SLOW pacer (R36, R37); SLOW_BAND stands below SLOW_AT in a legal configuration, so that the difference
of the two is a threshold. -/
theorem crossingResult_of_slow {c : Pacer} (hl : LegalConfig c.cfg) (h : c.slow = true) :
    crossingResult c =
      if c.cfg.slowAt = 0 ∨ c.spacing.toNat + c.cfg.slowBand.toNat ≤ c.cfg.slowAt.toNat then .recovers else .stays := by
  by_cases ha : c.cfg.slowAt = 0
  · simp only [crossingResult, h, ha, if_true, true_or]
  · obtain ⟨-, -, hband⟩ := hl.slowAt ha
    have hd : c.spacing.toNat ≤ c.cfg.slowAt.toNat - c.cfg.slowBand.toNat ↔
        c.spacing.toNat + c.cfg.slowBand.toNat ≤ c.cfg.slowAt.toNat := by omega
    simp only [crossingResult, h, ha, hd, if_true, if_false, false_or]

/-- Settles O17, by what the check finds. -/
theorem crossingCheckMovesSlow : Obligations.Crossing_check_moves_slow := by
  intro p s c hl
  have hl := (legal_iff _).mp hl
  refine ⟨fun hs ha hx => ?_, fun hs hx => ?_, fun hs hx => ?_, fun hs ha hx => ?_⟩
  · exact crossingCheck_goesSlow ((crossingResult_of_not_slow hs).trans (if_pos ⟨ha, hx⟩))
  · refine crossingCheck_stays ((crossingResult_of_not_slow hs).trans (if_neg ?_))
    rintro ⟨ha, hgt⟩
    rcases hx with h0 | hle
    · exact ha h0
    · omega
  · exact crossingCheck_recovers ((crossingResult_of_slow hl hs).trans (if_pos hx))
  · refine crossingCheck_stays ((crossingResult_of_slow hl hs).trans (if_neg ?_))
    rintro (h0 | hle)
    · exact ha h0
    · omega

end Sys2Proof.Machine
end

section
/-!
PROOFS. Every step keeps the adaptation law (R27, R37, R39).

The law reads few fields of a context, and only in LIVE and PAUSED (`Pacer.Undisturbed`); most operations leave these as
they are (`SettledFrame`). Adaptation, START, SET_SPACING and configuration writes move them, and the crossing check that
follows brings SLOW back into agreement whatever it was before (`slowAfterCheck_right`).
-/

namespace Sys2Proof.Machine

/-! ### The two halves of the law -/

/-- The window tallies stand below WINDOW (R27). -/
structure Pacer.Tallied (c : Pacer) : Prop where
  marks : adapts c = true → c.winMarks ≤ c.winCount
  window : adapts c = true → c.winCount < c.cfg.window.toNat

/-- SLOW agrees with SPACING, SLOW_AT and SLOW_BAND (R37, R39). -/
structure Pacer.SlowRight (c : Pacer) : Prop where
  off : c.cfg.slowAt = 0 → c.slow = false
  set : c.cfg.slowAt ≠ 0 → c.slow = true → c.cfg.slowAt.toNat - c.cfg.slowBand.toNat < c.spacing.toNat
  clear : c.cfg.slowAt ≠ 0 → c.slow = false → c.spacing.toNat ≤ c.cfg.slowAt.toNat

theorem Pacer.settled_iff (c : Pacer) : c.Settled ↔ c.Tallied ∧ (adapts c = true → c.SlowRight) := by
  constructor
  · intro h
    exact ⟨⟨h.marks, h.window⟩, fun ha => ⟨h.slowOff ha, h.slowSet ha, h.slowClear ha⟩⟩
  · rintro ⟨ht, hs⟩
    exact ⟨ht.marks, ht.window, fun ha => (hs ha).off, fun ha => (hs ha).set, fun ha => (hs ha).clear⟩

theorem Pacer.Settled.tallied {c : Pacer} (h : c.Settled) : c.Tallied := ((Pacer.settled_iff c).mp h).1

theorem Pacer.Settled.slowRight {c : Pacer} (h : c.Settled) : adapts c = true → c.SlowRight :=
  ((Pacer.settled_iff c).mp h).2

/-- Outside LIVE and PAUSED the law asks nothing. -/
theorem Pacer.Settled.of_not_adapts {c : Pacer} (h : adapts c = false) : c.Settled := by
  constructor <;> (intro ha; rw [h] at ha; cases ha)

theorem ne_vacant_of_adapts {c : Pacer} (h : adapts c = true) : c.state ≠ .vacant := by
  intro hv
  simp [adapts, hv] at h

/-- A restarted window is empty, and a legal WINDOW is at least 4 (R5, R25). -/
theorem Pacer.Lawful.tallied {c : Pacer} (h : c.Lawful) (count : c.winCount = 0) (marks : c.winMarks = 0) :
    c.Tallied where
  marks _ := by rw [count, marks]
  window ha := by
    have hw := ((legal_iff _).mp (h.legal (ne_vacant_of_adapts ha))).window
    omega

/-! ### What the law reads -/

/-- The fields of a context that the law reads. -/
def Pacer.settledView (c : Pacer) : PacerConfig × BitVec 16 × Nat × Nat × Bool :=
  (c.cfg, c.spacing, c.winCount, c.winMarks, c.slow)

/-- A context in LIVE or PAUSED was in one of the two before, and what the law reads of it is as it was. -/
def Pacer.Undisturbed (c d : Pacer) : Prop := adapts d = true → adapts c = true ∧ d.settledView = c.settledView

theorem Pacer.Settled.undisturbed {c d : Pacer} (h : c.Settled) (f : c.Undisturbed d) : d.Settled := by
  cases ha : adapts d with
  | false => exact .of_not_adapts ha
  | true =>
    obtain ⟨hc, hv⟩ := f ha
    simp only [Pacer.settledView, Prod.mk.injEq] at hv
    obtain ⟨hcfg, hspacing, hcount, hmarks, hslow⟩ := hv
    constructor <;> (intro _; simp only [hcfg, hspacing, hcount, hmarks, hslow])
    · exact h.marks hc
    · exact h.window hc
    · exact h.slowOff hc
    · exact h.slowSet hc
    · exact h.slowClear hc

/-- What the law reads of each pacer in LIVE or PAUSED is as it was. -/
def SettledFrame (s t : State) : Prop := ∀ p : PacerId, (s.pacer p).Undisturbed (t.pacer p)

theorem AdaptationLaw.frame {s t : State} (h : AdaptationLaw s) (f : SettledFrame s t) : AdaptationLaw t :=
  fun p => (h p).undisturbed (f p)

theorem SettledFrame.trans {s t u : State} (f : SettledFrame s t) (g : SettledFrame t u) :
    SettledFrame s u := fun p hu => by
  obtain ⟨ht, hut⟩ := g p hu
  obtain ⟨hs, hts⟩ := f p ht
  exact ⟨hs, hut.trans hts⟩

theorem SettledFrame.of_pacers {s t : State} (h : t.pacers = s.pacers) : SettledFrame s t := fun p ha => by
  simp only [State.pacer, h] at ha ⊢
  exact ⟨ha, trivial⟩

theorem SettledFrame.refl (s : State) : SettledFrame s s := .of_pacers rfl

/-- One pacer's context is replaced, and whatever is no part of the pacer table. -/
theorem SettledFrame.of_setPacer {s t : State} {p : PacerId} {c : Pacer} (ht : t.pacers = tableSet s.pacers p c)
    (hc : (s.pacer p).Undisturbed c) : SettledFrame s t := by
  refine SettledFrame.trans (t := s.setPacer p c) (fun q => ?_) (.of_pacers ht)
  rw [State.setPacer_pacer]
  split
  · rename_i hq
    rw [hq]
    exact hc
  · exact SettledFrame.refl s q

theorem SettledFrame.setPacer (s : State) (p : PacerId) {c : Pacer} (hc : (s.pacer p).Undisturbed c) :
    SettledFrame s (s.setPacer p c) := .of_setPacer rfl hc

theorem SettledFrame.map {s t : State} {f : Pacer → Pacer} (ht : t.pacers = s.pacers.map f)
    (hf : ∀ c : Pacer, c.Undisturbed (f c)) : SettledFrame s t := fun q => by
  have hq : t.pacer q = f (s.pacer q) := by rw [State.pacer, ht, tableGet_map]; rfl
  rw [hq]
  exact hf _

theorem NoticeFrame.settled {s t : State} (f : NoticeFrame s t) : SettledFrame s t := .of_pacers f.pacers

theorem PortFrame.settled {s t : State} (f : PortFrame s t) : SettledFrame s t := by
  obtain ⟨-, -, -, -, -, hp, -⟩ := f.fields
  exact .of_pacers hp

theorem AdaptationLaw.of_pacers {s t : State} (h : AdaptationLaw s) (hp : t.pacers = s.pacers) : AdaptationLaw t :=
  h.frame (.of_pacers hp)

theorem AdaptationLaw.setPacer {s : State} {p : PacerId} {c : Pacer} (h : AdaptationLaw s) (hc : c.Settled) :
    AdaptationLaw (s.setPacer p c) := fun q => by
  rw [State.setPacer_pacer]
  split
  · exact hc
  · exact h q

/-! ### The crossing check -/

/-- SLOW as the crossing check leaves it (R36, R37). -/
def slowAfterCheck (c : Pacer) : Bool :=
  match crossingResult c with
  | .goesSlow => true
  | .recovers => false
  | .stays => c.slow

/-- A crossing changes no field of its pacer but CROSS_PENDING (R132). -/
theorem crossing_pacer_self (p : PacerId) (b : NoticeBody) (s : State) :
    ∃ pending, (crossing p b s).pacer p = { s.pacer p with crossPending := pending } := by
  unfold crossing
  split
  · split
    · rw [State.removeCrossing_eq]
      exact ⟨false, s.setPacer_pacer_self p _⟩
    · split
      · have hp : (s.enterNotice b).pacer p = s.pacer p := by
          simp only [State.pacer, (s.enterNotice_frame b).pacers]
        exact ⟨true, by rw [State.modPacer_eq, State.setPacer_pacer_self, hp]⟩
      · exact ⟨_, rfl⟩
  · exact ⟨_, rfl⟩

theorem crossingCheck_pacer_self (p : PacerId) (s : State) :
    ∃ pending,
      (crossingCheck p s).pacer p =
        { s.pacer p with slow := slowAfterCheck (s.pacer p), crossPending := pending } := by
  unfold slowAfterCheck
  cases hr : crossingResult (s.pacer p) with
  | goesSlow =>
    rw [crossingCheck_goesSlow hr]
    simpa using crossing_pacer_self p _ (s.setPacer p { s.pacer p with slow := true })
  | recovers =>
    rw [crossingCheck_recovers hr]
    simpa using crossing_pacer_self p _ (s.setPacer p { s.pacer p with slow := false })
  | stays =>
    rw [crossingCheck_stays hr]
    exact ⟨_, rfl⟩

theorem slowAfterCheck_of_off {c : Pacer} (h : c.cfg.slowAt = 0) : slowAfterCheck c = false := by
  cases hs : c.slow <;> simp [slowAfterCheck, crossingResult, h, hs]

/-- With a threshold, SLOW is SPACING's side of SLOW_AT, or of SLOW_AT less SLOW_BAND for a pacer that was SLOW. -/
theorem slowAfterCheck_of_on {c : Pacer} (h : c.cfg.slowAt ≠ 0) :
    slowAfterCheck c =
      if c.slow then decide (c.cfg.slowAt.toNat - c.cfg.slowBand.toNat < c.spacing.toNat)
      else decide (c.cfg.slowAt.toNat < c.spacing.toNat) := by
  unfold slowAfterCheck crossingResult
  rw [if_neg h]
  cases c.slow with
  | true =>
    generalize c.cfg.slowAt.toNat - c.cfg.slowBand.toNat = low
    by_cases hx : low < c.spacing.toNat <;> simp [hx, ← not_lt]
  | false => by_cases hx : c.cfg.slowAt.toNat < c.spacing.toNat <;> simp [hx]

/-- Whatever SLOW was, the check leaves it in agreement (R39). -/
theorem slowAfterCheck_right (c : Pacer) : Pacer.SlowRight { c with slow := slowAfterCheck c } where
  off ha := slowAfterCheck_of_off ha
  set ha hs := by
    dsimp only at ha hs ⊢
    rw [slowAfterCheck_of_on ha] at hs
    cases hc : c.slow with
    | true => simpa [hc] using hs
    | false =>
      have : c.cfg.slowAt.toNat < c.spacing.toNat := by simpa [hc] using hs
      omega
  clear ha hs := by
    dsimp only at ha hs ⊢
    rw [slowAfterCheck_of_on ha] at hs
    cases hc : c.slow with
    | true =>
      have : c.spacing.toNat ≤ c.cfg.slowAt.toNat - c.cfg.slowBand.toNat := by simpa [hc] using hs
      omega
    | false => simpa [hc] using hs

/-- A pacer whose tallies are right is settled by the crossing check. -/
theorem AdaptationLaw.check {s : State} {p : PacerId} {c : Pacer} (h : AdaptationLaw s) (hc : c.Tallied) :
    AdaptationLaw (crossingCheck p (s.setPacer p c)) := fun q => by
  rcases eq_or_ne q p with rfl | hq
  · obtain ⟨pending, ho⟩ := crossingCheck_pacer_self q (s.setPacer q c)
    rw [State.setPacer_pacer_self] at ho
    rw [ho, Pacer.settled_iff]
    have hr := slowAfterCheck_right c
    exact ⟨⟨hc.marks, hc.window⟩, fun _ => ⟨hr.off, hr.set, hr.clear⟩⟩
  · rw [(crossingCheck_frame p _).others q hq, State.setPacer_pacer_ne s hq]
    exact h q

end Sys2Proof.Machine
end

section
/-!
PROOFS. Every step keeps the adaptation law: the operations, the management requests and the events.
-/

namespace Sys2Proof.Machine

/-! ### Adaptation -/

/-- Within the window the tallies stay below WINDOW, and a mark is tallied with its response (R27). -/
theorem tally_settled {c : Pacer} (marked : Bool) (h : c.Settled) (hw : c.winCount + 1 ≠ c.cfg.window.toNat) :
    (tally marked c).Settled where
  marks ha := by
    have hm := h.marks ha
    cases marked <;> simp only [tally, if_true, Bool.false_eq_true, if_false] <;> omega
  window ha := lt_of_le_of_ne (h.window ha) hw
  slowOff := h.slowOff
  slowSet := h.slowSet
  slowClear := h.slowClear

theorem windowResponse_adaptationLaw {s : State} (p : PacerId) (marked : Bool) (hc : ContextLaw s)
    (h : AdaptationLaw s) : AdaptationLaw (windowResponse p marked s) := by
  by_cases hw : (s.pacer p).winCount + 1 = (s.pacer p).cfg.window.toNat
  · have ht : (tally marked (s.pacer p)).Lawful := (hc p).keep id rfl rfl le_rfl
    rw [windowResponse_closing marked hw]
    exact h.check ((windowRestart_lawful (windowVerdict_lawful ht)).tallied rfl rfl)
  · rw [windowResponse_open marked hw]
    exact h.setPacer (tally_settled marked (h p) hw)

theorem countedResponse_adaptationLaw {s : State} (p : PacerId) (m : Pressure) (hc : ContextLaw s)
    (h : AdaptationLaw s) : AdaptationLaw (countedResponse p m s) := by
  unfold countedResponse
  split
  · cases m with
    | clear => exact windowResponse_adaptationLaw p false hc h
    | light => exact windowResponse_adaptationLaw p true hc h
    | heavy => exact h.check ((windowRestart_lawful (decreaseStep_lawful (hc p))).tallied rfl rfl)
    | halt => exact h.check ((haltPacer_lawful (hc p)).tallied rfl rfl)
  · exact h

theorem timeoutHalt_adaptationLaw {s : State} (p : PacerId) (hc : ContextLaw s) (h : AdaptationLaw s) :
    AdaptationLaw (timeoutHalt p s) := by
  unfold timeoutHalt
  split
  · exact h.check ((haltPacer_lawful (hc p)).tallied rfl rfl)
  · exact h

/-- The idle rule moves SPACING and not the window (R33). -/
theorem idleRule_adaptationLaw {s : State} (p : PacerId) (h : AdaptationLaw s) : AdaptationLaw (idleRule p s) := by
  unfold idleRule
  split
  · exact h.check ⟨(h p).marks, (h p).window⟩
  · exact h

/-! ### The calendar, drains and queues -/

theorem removeCrossing_settled (p : PacerId) (s : State) : SettledFrame s (s.removeCrossing p) := by
  rw [State.removeCrossing_eq]
  exact .of_setPacer rfl fun ha => ⟨ha, rfl⟩

theorem withdrawCrossing_settled (p : PacerId) (s : State) : SettledFrame s (withdrawCrossing p s) := by
  unfold withdrawCrossing
  split
  · exact removeCrossing_settled p s
  · exact .refl s

theorem settleCalendar_settled (p : PacerId) (s : State) : SettledFrame s (settleCalendar p s) :=
  .of_pacers (settleCalendar_pacers p s)

theorem leaveCalendar_settled (p : PacerId) (s : State) : SettledFrame s (leaveCalendar p s) := .of_pacers rfl

/-- A pacer whose drain completes is SWEEPING, of which the law asks nothing (R15). -/
theorem drainCheck_settled (p : PacerId) (s : State) : SettledFrame s (drainCheck p s) := fun q ha => by
  rw [drainCheck_pacer] at ha ⊢
  split at ha
  · cases ha
  · rename_i hd
    rw [if_neg hd]
    exact ⟨ha, rfl⟩

theorem drainCheckAll_settled (l : List PacerId) (s : State) : SettledFrame s (drainCheckAll l s) := by
  induction l generalizing s with
  | nil => exact .refl s
  | cons p rest ih => exact (drainCheck_settled p s).trans (ih _)

theorem completeDrains_settled (s : State) : SettledFrame s (completeDrains s) :=
  SettledFrame.trans (t := { s with draws := s.draws + 1 }) (.of_pacers rfl) (drainCheckAll_settled _ _)

theorem flightFell_settled (p : PacerId) (s : State) : SettledFrame s (flightFell p s) :=
  (settleCalendar_settled p s).trans (drainCheck_settled p _)

theorem lowerFlight_settled (p : PacerId) (s : State) : SettledFrame s (lowerFlight p s) :=
  .of_setPacer rfl fun ha => ⟨ha, rfl⟩

theorem removeHead_settled (p : PacerId) (s : State) : SettledFrame s (removeHead p s) := by
  cases hq : s.queue p with
  | nil =>
    rw [removeHead_nil p s hq]
    exact .refl s
  | cons x rest =>
    rw [removeHead_cons p s x rest hq]
    exact .of_setPacer rfl fun ha => ⟨ha, rfl⟩

theorem discardFrom_settled (p : PacerId) (l : List HoldSlot) (s : State) : SettledFrame s (discardFrom p l s) := by
  induction l generalizing s with
  | nil => exact .refl s
  | cons x rest ih =>
    unfold discardFrom
    split
    · exact ((removeHead_settled p s).trans (.of_pacers rfl)).trans (ih ((removeHead p s).bump .postedDrops))
    · split
      · exact .refl s
      · exact .of_pacers rfl

theorem processDiscard_settled (p : PacerId) (s : State) : SettledFrame s (processDiscard p s) :=
  (discardFrom_settled p _ s).trans (drainCheck_settled p _)

/-! ### Commands -/

/-- RESUME clamps a SPACING that stands between its bounds already (R10, R20). -/
theorem clampSpacing_of_between {c : PacerConfig} {v : BitVec 16} (lo : c.spaceMin.toNat ≤ v.toNat)
    (hi : v.toNat ≤ c.spaceMax.toNat) : clampSpacing c v = v := by
  rw [clampSpacing, if_neg (by omega), if_neg (by omega)]

theorem resumedPacer_undisturbed {c : Pacer} (now : PacingTime) (hc : c.Lawful) (hs : c.state = .paused) :
    c.Undisturbed (resumedPacer now c) := fun _ => by
  have hv : c.state ≠ .vacant := by rw [hs]; decide
  have hk : (resumedPacer now c).spacing = c.spacing :=
    clampSpacing_of_between (hc.spacingLow hv) (hc.spacingHigh hv)
  refine ⟨by simp [adapts, hs], ?_⟩
  rw [Pacer.settledView, hk]
  rfl

/-- A pacer that retires, or turns to DISCARD, is DRAINING, of which the law asks nothing (R12, R13). -/
theorem retiring_settled (p : PacerId) (m : RetireMode) (s : State) : SettledFrame s (s.modPacer p (drainingPacer m)) :=
  .setPacer s p fun ha => nomatch ha

theorem CommandEffect.adaptationLaw {s t : State} (e : CommandEffect s t) (hc : ContextLaw s) (h : AdaptationLaw s) :
    AdaptationLaw t := by
  cases e with
  | none => exact h
  | rearms =>
    unfold rearmAlert
    dsimp only
    split
    · exact (h.of_pacers rfl).frame (State.alertDue_frame _).settled
    · exact h.of_pacers rfl
  | stages => exact h.setPacer (.of_not_adapts rfl)
  | @starts p hs =>
    have hl : (startedPacer s.clock.pacingTime (s.pacer p)).Lawful :=
      (hc p).move (fun _ => by rw [hs]; decide) rfl le_rfl (fun hl _ _ => hl.order)
    exact (h.check (hl.tallied rfl rfl)).frame (settleCalendar_settled p _)
  | @pauses p hs =>
    exact h.frame (.of_setPacer rfl fun _ => ⟨by simp [adapts, hs], rfl⟩)
  | @resumes p hs =>
    exact (h.frame (.setPacer s p (resumedPacer_undisturbed _ (hc p) hs))).frame (settleCalendar_settled p _)
  | @flushes p =>
    have hr := (withdrawCrossing_settled p s).trans (retiring_settled p .flush _)
    exact ((h.frame hr).frame (settleCalendar_settled p _)).frame (drainCheck_settled p _)
  | @discards p =>
    have hr := (withdrawCrossing_settled p s).trans (retiring_settled p .discard _)
    exact ((h.frame hr).frame (leaveCalendar_settled p _)).frame (processDiscard_settled p _)
  | @turns p =>
    exact ((h.frame (retiring_settled p .discard s)).frame (leaveCalendar_settled p _)).frame
      (processDiscard_settled p _)
  | @spaces p v hs => exact h.setPacer (.of_not_adapts (by simp [adapts, hs]))
  | @respaces p v => exact h.check ((windowRestart_lawful (clamped_lawful (hc p) v)).tallied rfl rfl)

/-! ### Configuration writes -/

/-- An accepted write leaves WINDOW above WIN_COUNT (R18, test 2). -/
theorem rewritten_tallied {c : Pacer} {w : Fin 7} {v : MgmtWord} (h : c.Tallied)
    (hu : underOccupied c (configWithWord c.cfg w v) w = false) : (rewritten c w v).Tallied where
  marks := h.marks
  window ha := by
    by_cases h3 : w = 3
    · have hn := mt (underOccupied_iff c (configWithWord c.cfg w v) w).mpr (by simp [hu])
      simp only [not_or, not_and, not_le] at hn
      exact hn.2 h3
    · have hwin : (configWithWord c.cfg w v).window = c.cfg.window := by
        fin_cases w <;> simp_all [configWithWord]
      simp only [rewritten, hwin]
      exact h.window ha

/-- Where no check follows the write, SPACING, SLOW_AT and SLOW_BAND are as they were (R19, R35). -/
theorem rewritten_slowRight {c : Pacer} {w : Fin 7} {v : MgmtWord} (h : c.SlowRight) (h4 : w ≠ 4)
    (hx : spacingAfterWrite c (configWithWord c.cfg w v) w = c.spacing) : (rewritten c w v).SlowRight := by
  have hat : (configWithWord c.cfg w v).slowAt = c.cfg.slowAt := by fin_cases w <;> simp_all [configWithWord]
  have hband : (configWithWord c.cfg w v).slowBand = c.cfg.slowBand := by fin_cases w <;> simp_all [configWithWord]
  constructor <;> simp only [rewritten, hat, hband, hx]
  · exact h.off
  · exact h.set
  · exact h.clear

/-- A PAUSED pacer's accepted write is followed by the check wherever it could bring SLOW out of agreement (R19). -/
theorem writeConfig_paused_adaptationLaw {s : State} {p : PacerId} {w : Fin 7} {v : MgmtWord} (h : AdaptationLaw s)
    (hs : (s.pacer p).state = .paused) (hl : legal (configWithWord (s.pacer p).cfg w v) = true)
    (hu : underOccupied (s.pacer p) (configWithWord (s.pacer p).cfg w v) w = false) :
    AdaptationLaw (writeConfig p w v s).1 := by
  have ht := rewritten_tallied (v := v) (h p).tallied hu
  rw [writeConfig_paused w v hs hl hu]
  dsimp only
  split
  · exact h.check ht
  · rename_i hn
    rw [checkAfterWrite_iff _ w hs, not_or, not_not] at hn
    obtain ⟨h4, hx⟩ := hn
    exact h.setPacer ((Pacer.settled_iff _).mpr ⟨ht, fun ha => rewritten_slowRight ((h p).slowRight ha) h4 hx⟩)

theorem writeConfig_adaptationLaw {s : State} (p : PacerId) (w : Fin 7) (v : MgmtWord) (h : AdaptationLaw s) :
    AdaptationLaw (writeConfig p w v s).1 := by
  have parked (hs : (s.pacer p).state = .staged ∨ (s.pacer p).state = .paused) :
      AdaptationLaw (writeConfig p w v s).1 := by
    cases hl : legal (configWithWord (s.pacer p).cfg w v) with
    | false => rw [writeConfig_illegal w v hs hl]; exact h
    | true =>
      cases hu : underOccupied (s.pacer p) (configWithWord (s.pacer p).cfg w v) w with
      | true => rw [writeConfig_occupied w v hs hl hu]; exact h
      | false =>
        rcases hs with hs | hs
        · rw [writeConfig_staged w v hs hl hu]
          exact h.setPacer (.of_not_adapts (by simp [adapts, rewritten, hs]))
        · exact writeConfig_paused_adaptationLaw h hs hl hu
  cases hs : (s.pacer p).state with
  | vacant =>
    rw [writeConfig_vacant w v hs]
    exact h.setPacer (.of_not_adapts (by simp [adapts, hs]))
  | live => rw [writeConfig_refused w v (.inl hs)]; exact h
  | draining => rw [writeConfig_refused w v (.inr (.inl hs))]; exact h
  | sweeping => rw [writeConfig_refused w v (.inr (.inr hs))]; exact h
  | staged => exact parked (.inl hs)
  | paused => exact parked (.inr hs)

/-! ### Management requests -/

theorem denyAccess_pacers (g : Tag) (s : State) : (denyAccess g s).pacers = s.pacers :=
  (State.plainNotice_frame (s.bump .denied) _).pacers

theorem writeTickLen_pacers (v : MgmtWord) (s : State) : (writeTickLen v s).1.pacers = s.pacers := by
  unfold writeTickLen
  dsimp only
  split
  · rfl
  · split <;> rfl

theorem writeDefaultPacer_pacers (v : MgmtWord) (s : State) : (writeDefaultPacer v s).1.pacers = s.pacers := by
  unfold writeDefaultPacer
  cases bindRequest v with
  | pacer p => dsimp only; split <;> rfl
  | _ => rfl

theorem writeTagMap_pacers (g : Tag) (v : MgmtWord) (s : State) : (writeTagMap g v s).1.pacers = s.pacers := by
  unfold writeTagMap
  cases bindRequest v with
  | pacer p => dsimp only; split <;> rfl
  | _ => rfl

theorem writeManager_pacers (g : Tag) (e : Fin 4) (v : MgmtWord) (s : State) :
    (writeManager g e v s).1.pacers = s.pacers := by
  unfold writeManager
  split
  · exact denyAccess_pacers g s
  · split <;> rfl

/-- Of the words, the command word and the configuration words reach the pacer table. -/
theorem writeWord_adaptationLaw {s : State} (g : Tag) (w : WindowWord) (v : MgmtWord) (hc : ContextLaw s)
    (h : AdaptationLaw s) : AdaptationLaw (writeWord g w v s).1 := by
  cases w with
  | tickLen => exact h.of_pacers (writeTickLen_pacers v s)
  | enables => exact h.of_pacers (writeEnables_pacers _ s)
  | defaultPacer => exact h.of_pacers (writeDefaultPacer_pacers v s)
  | command => exact ((judgeCommand_effect _ _ _ s).adaptationLaw hc h).of_pacers rfl
  | manager e => exact h.of_pacers (writeManager_pacers g e v s)
  | config p k => exact writeConfig_adaptationLaw p k v h
  | tagMap t => exact h.of_pacers (writeTagMap_pacers t v s)
  | _ => exact h.of_pacers rfl

theorem popNotice_settled (s : State) : SettledFrame s (popNotice s) := by
  unfold popNotice
  split
  · exact .of_pacers rfl
  · dsimp only
    split
    · exact .of_setPacer rfl fun ha => ⟨ha, rfl⟩
    · exact .of_pacers rfl

theorem judgeRequest_adaptationLaw {s : State} (pkt : Packet) (hc : ContextLaw s) (h : AdaptationLaw s) :
    AdaptationLaw (judgeRequest pkt s).1 := by
  unfold judgeRequest
  cases reach s pkt.header with
  | refused st => exact h
  | denied => exact h.of_pacers (denyAccess_pacers _ s)
  | word w =>
    dsimp only
    split
    · cases w with
      | pop => exact h.frame (popNotice_settled s)
      | _ => exact h
    · exact writeWord_adaptationLaw _ w _ hc h

/-- The agent's run takes one request after another, so that the context law is carried along. -/
theorem agentLook_adaptationLaw {s : State} (hc : ContextLaw s) (h : AdaptationLaw s) :
    AdaptationLaw (agentLook s) := by
  have both : ContextLaw (agentLook s) ∧ AdaptationLaw (agentLook s) :=
    agentLook_induction (P := fun x => ContextLaw x ∧ AdaptationLaw x)
      (fun x ⟨hc, h⟩ => ⟨hc.of_pacers (dropMgmtPosted_pacers x), h.of_pacers (dropMgmtPosted_pacers x)⟩)
      (fun pkt x ⟨hc, h⟩ => ⟨takeRequest_contextLaw pkt x hc, (judgeRequest_adaptationLaw pkt hc h).of_pacers rfl⟩)
      ⟨hc, h⟩
  exact both.2

/-! ### The events -/

theorem enqueue_settled (p : PacerId) (pkt : Packet) (s : State) : SettledFrame s (enqueue p pkt s) := by
  have hj : SettledFrame s (joinQueue p pkt s) := .of_setPacer rfl fun ha => ⟨ha, rfl⟩
  unfold enqueue
  dsimp only
  split
  · exact hj.trans (.of_setPacer rfl fun ha => ⟨ha, rfl⟩)
  · exact hj

theorem countRefusal_settled (p : Option PacerId) (s : State) : SettledFrame s (countRefusal p s) := by
  cases p with
  | none => exact .refl s
  | some p => exact .setPacer s p fun ha => ⟨ha, rfl⟩

theorem refuseArrival_settled (pkt : Packet) (cause : RefusalCause) (p : Option PacerId) (s : State) :
    SettledFrame s (refuseArrival pkt cause p s) := by
  have hr : SettledFrame s (countRefusal p (s.bump cause.counter)) :=
    SettledFrame.trans (.of_pacers rfl) (countRefusal_settled p (s.bump cause.counter))
  unfold refuseArrival
  dsimp only
  split
  · exact hr.trans (.of_pacers (by simp))
  · exact hr.trans (.of_pacers rfl)

theorem intake_settled (pkt : Packet) (s : State) : SettledFrame s (intake pkt s) := by
  unfold intake
  cases judgeArrival s pkt.header with
  | admitted p => exact enqueue_settled p pkt s
  | refused cause p => exact refuseArrival_settled pkt cause p s

theorem matchedResponse_adaptationLaw {s : State} (pkt : Packet) (n : EntryId) (hc : ContextLaw s)
    (h : AdaptationLaw s) : AdaptationLaw (matchedResponse pkt n s) := by
  have hr := (countedResponse_adaptationLaw (s.entry n).pacer (Pressure.ofCode pkt.header.pressure) hc h).frame
    (lowerFlight_settled (s.entry n).pacer _)
  unfold matchedResponse
  refine AdaptationLaw.frame ?_ (flightFell_settled _ _)
  split
  · exact hr.of_pacers (by simp)
  · exact hr.of_pacers rfl

theorem takeResponse_adaptationLaw {s : State} (pkt : Packet) (hc : ContextLaw s) (h : AdaptationLaw s) :
    AdaptationLaw (takeResponse pkt s) := by
  unfold takeResponse
  cases responseFate s pkt with
  | stale => exact h.of_pacers (by simp)
  | late n => exact h.of_pacers (by simp)
  | mismatch n => exact (h.of_pacers (by simp)).frame (State.plainNotice_frame _ _).settled
  | matched n => exact matchedResponse_adaptationLaw pkt n hc h

theorem expire_adaptationLaw {s : State} (n : EntryId) (hc : ContextLaw s) (h : AdaptationLaw s) :
    AdaptationLaw (expire n s) := by
  have hl : ContextLaw (lowerFlight (s.entry n).pacer s) := hc.setPacer ((hc _).keep id rfl rfl le_rfl)
  have ht := timeoutHalt_adaptationLaw (s.entry n).pacer hl (h.frame (lowerFlight_settled _ s))
  have hb := ht.of_pacers (t := State.bump _ .timeouts) rfl
  exact ((hb.frame (State.plainNotice_frame _ _).settled).of_pacers (expireEntry_pacers n _)).frame
    (flightFell_settled _ _)

theorem sendRequest_settled (p : PacerId) (req : Packet) (s : State) : SettledFrame s (sendRequest p req s) := by
  unfold sendRequest
  split
  · exact .of_pacers rfl
  · split
    · exact .of_setPacer rfl fun ha => ⟨ha, rfl⟩
    · exact .refl s

/-- A departure sets DEMAND, DUE and the tallies of departures, which the law does not read (R55, R56). -/
theorem recordDeparture_undisturbed (now : PacingTime) (beats : Nat) (c : Pacer) :
    c.Undisturbed (recordDeparture now beats c) := fun ha => ⟨ha, rfl⟩

theorem depart_adaptationLaw {s : State} (p : PacerId) (req : Packet) (h : AdaptationLaw s) :
    AdaptationLaw (depart p req s) := by
  have hi : AdaptationLaw (if (s.pacer p).state = .live then idleRule p s else s) := by
    split
    · exact idleRule_adaptationLaw p h
    · exact h
  have hs := (hi.frame (removeHead_settled p _)).frame (sendRequest_settled p req _)
  have hd : AdaptationLaw (consumeRequestCredit (sendRequest p req (removeHead p _))) := hs.of_pacers rfl
  exact ((hd.frame (.setPacer _ p (recordDeparture_undisturbed _ _ _))).frame (settleCalendar_settled p _)).frame
    (drainCheck_settled p _)

theorem visitEntry_settled (p : PacerId) (k : Tag) (s : State) : SettledFrame s (visitEntry p k s) := by
  have ends (x : State) : SettledFrame x (endSweep p x) := by
    have hv : SettledFrame x (x.modPacer p (fun c => { c with state := .vacant })) := .setPacer x p fun ha => nomatch ha
    exact (hv.trans (State.plainNotice_frame _ _).settled).trans (.of_pacers (startSweep_pacers _))
  unfold visitEntry
  dsimp only
  split
  · exact SettledFrame.trans (.of_pacers rfl) (ends _)
  · exact .of_pacers rfl

theorem releaseAborted_settled (p : PacerId) (s : State) : SettledFrame s (releaseAborted p s) := by
  have hd : SettledFrame s (drainCheck p ((removeHead p s).bump .aborted)) :=
    ((removeHead_settled p s).trans (.of_pacers rfl)).trans (drainCheck_settled p _)
  unfold releaseAborted
  dsimp only
  split
  · exact hd.trans (processDiscard_settled p _)
  · exact hd

theorem freeMgmtHead_pacers (s : State) : (freeMgmtHead s).pacers = s.pacers := by
  unfold freeMgmtHead
  split <;> simp

theorem releaseMgmt_adaptationLaw {s : State} (hc : ContextLaw s) (h : AdaptationLaw s) :
    AdaptationLaw (releaseMgmt s) :=
  agentLook_adaptationLaw (hc.of_pacers (freeMgmtHead_pacers s)) (h.of_pacers (freeMgmtHead_pacers s))

theorem placeItem_adaptationLaw {s : State} (i : ReplyItem) (rest : List ReplyItem) (pkt : Packet)
    (hc : ContextLaw s) (h : AdaptationLaw s) : AdaptationLaw (placeItem i rest pkt s) := by
  have hp : AdaptationLaw
      { s with responses := s.responses ++ [{ packet := pkt, origin := .bridge }], replies := rest } := h.of_pacers rfl
  unfold placeItem releaseResource
  cases i with
  | refusal req cause p => exact h.of_pacers (by simp)
  | aborted p => exact hp.frame (releaseAborted_settled p _)
  | givenUp cause n => exact hp.of_pacers rfl
  | mgmt st d b => exact releaseMgmt_adaptationLaw (hc.of_pacers rfl) hp

/-! ### Link resets -/

theorem resetPortI_settled (s : State) : SettledFrame s (resetPortI s) :=
  SettledFrame.trans (.of_pacers rfl) (State.plainNotice_frame _ _).settled

theorem resetPortT_settled (s : State) : SettledFrame s (resetPortT s) :=
  SettledFrame.trans (.of_pacers rfl) (State.plainNotice_frame _ _).settled

theorem linkResetI_settled (s : State) : SettledFrame s (linkResetI s) := by
  have hq : SettledFrame s (dropQueues (resetPortI s)) :=
    (resetPortI_settled s).trans (.map rfl fun _ ha => ⟨ha, rfl⟩)
  refine SettledFrame.trans (SettledFrame.trans ?_ (completeDrains_settled _)) (resetAlert_frame _).settled
  exact (hq.trans (.of_pacers rfl)).trans (.of_pacers (dropResponses_pacers _))

theorem linkResetT_settled (s : State) : SettledFrame s (linkResetT s) :=
  have hf : SettledFrame (resetPortT s) _ := .map (f := fun c => { c with flight := 0 }) rfl fun _ ha => ⟨ha, rfl⟩
  ((resetPortT_settled s).trans hf).trans (completeDrains_settled _)

theorem linkReset_settled (p : PortId) (s : State) : SettledFrame s (linkReset p s) := by
  cases p with
  | i => exact linkResetI_settled s
  | t => exact linkResetT_settled s

/-! ### The step -/

theorem Event.adaptationLaw {s t : State} (e : Event s t) (hc : ContextLaw s) (h : AdaptationLaw s) :
    AdaptationLaw t := by
  have port (s t : State) (f : PortFrame s t) (hs : AdaptationLaw s) : AdaptationLaw t := hs.frame f.settled
  have reset (p : PortId) (s : State) (hs : AdaptationLaw s) : AdaptationLaw (linkReset p s) :=
    hs.frame (linkReset_settled p s)
  cases e with
  | powersOn w g =>
    exact (((powerOn_adaptationLaw true w g).frame (enterInitWait_frame .i _).settled).frame
      (enterInitWait_frame .t _).settled).of_pacers rfl
  | traffic => exact (h.of_pacers rfl).frame (intake_settled _ _)
  | mgmt => exact agentLook_adaptationLaw (hc.of_pacers rfl) (h.of_pacers rfl)
  | response => exact takeResponse_adaptationLaw _ (hc.of_pacers rfl) (h.of_pacers rfl)
  | credit => exact h.frame (takeCredit_frame _ _ s).settled
  | bringsUp => exact h.frame (bringUp_frame _ _ s).settled
  | faults => exact faultSequence_induction port reset _ h
  | takesReset => exact takeReset_induction port reset _ h
  | resetSent => exact h.frame ((setLink_frame s _ _).trans (enterInitWait_frame _ _)).settled
  | resends => exact h.frame (sendInit_frame _ s).settled
  | sendsCredit which => exact h.frame (creditSendOnce_frame which s).settled
  | departs => exact depart_adaptationLaw _ _ h
  | expires => exact expire_adaptationLaw _ hc h
  | sweepsEntry => exact h.frame (visitEntry_settled _ _ s)
  | places => exact placeItem_adaptationLaw _ _ _ hc h
  | sends =>
    unfold sendResponse
    dsimp only
    split
    · exact h.of_pacers (by simp)
    · exact h.of_pacers rfl
  | _ => exact h.of_pacers rfl

/-- Settles O3: every step is an event, and every event keeps the law; the context law gives a restarted window its
WINDOW and RESUME a SPACING that needs no clamping. -/
theorem everyStepKeepsTheAdaptationLaw : Obligations.Every_step_keeps_the_adaptation_law := by
  intro s t hc hs hstep
  obtain ⟨rest, e⟩ := step_event hstep
  exact e.adaptationLaw (hc.of_pacers rfl) (hs.of_pacers rfl)

end Sys2Proof.Machine
end

section
/-!
PROOFS. The departure calendar (chapter 03): the step and the clock, the terms of membership, the arbiter's order, the
departure of the winner, and the writes of the settings and bindings.
-/

namespace Sys2Proof.Machine

/-! ### The step and the clock (R44, R95) -/

theorem Clock.tick_eq_clockAtTick (s : State) :
    s.clock.tick s.agent.tickLen = clockAtTick s (s.clock.tickSpan - s.clock.tickPast) := rfl

/-- Time passes to the next microsecond or the tick's end, whichever comes first (R44, R95). -/
theorem timePasses_eq_clockRun (s : State) : timePasses s = clockRun s := by
  unfold timePasses clockRun
  cases hr : s.pins.resetN with
  | false => rfl
  | true =>
    rw [if_pos rfl, if_neg (by decide)]
    rcases s.clock.run_cases s.agent.tickLen with ⟨hlt, hrun⟩ | ⟨hge, hrun⟩
    · exact hrun.trans (if_pos hlt).symm
    · exact hrun.trans (if_neg (not_lt.mpr hge)).symm

/-- A lane sends in UP and in INIT_WAIT. -/
theorem laneSend_eq (l : Link) :
    laneSend l = { l with lane := if l.state = .up ∨ l.state = .initWait then l.lane.drop 1 else l.lane } := by
  obtain ⟨state, resend, lane⟩ := l
  cases state <;> rfl

/-- Settles O10: a waiting command is run by the definition, and an idle step is the clock's run and the two lanes'. -/
theorem stepRunsTheFrontCommand : Obligations.Step_runs_the_front_command := by
  refine ⟨fun c rest s => rfl, fun s hp => ?_⟩
  simp only [step, hp, idle, timePasses_eq_clockRun, laneSend_eq]

/-- Settles O26: by the level of RESET_N. -/
theorem pacingTickAdvancesTheClock : Obligations.Pacing_tick_advances_the_clock := by
  intro s
  have he : exec .pacingTick s = execPacingTick s := rfl
  refine ⟨fun hr => ?_, fun hr => ?_⟩
  · rw [he, execPacingTick, hr, if_pos rfl, Clock.tick_eq_clockAtTick]
  · rw [he, execPacingTick, hr, if_neg (by decide)]

/-! ### Membership of the calendar (R47) -/

theorem settleCalendar_sorted (p : PacerId) {s : State} (h : s.calendar.Pairwise (· < ·)) :
    (settleCalendar p s).calendar.Pairwise (· < ·) := by
  unfold settleCalendar
  split
  · exact insertPacer_sorted p h
  · exact leaveCalendar_sorted p h

theorem mem_settleCalendar_ne {p q : PacerId} (hq : q ≠ p) (s : State) :
    q ∈ (settleCalendar p s).calendar ↔ q ∈ s.calendar := by
  unfold settleCalendar
  split
  · simp [joinCalendar, hq]
  · simp [hq]

theorem settleCalendar_frame (p : PacerId) (s : State) : { settleCalendar p s with calendar := s.calendar } = s := by
  unfold settleCalendar
  split <;> rfl

/-- Settles O21: the pacer itself stands where the terms put it, and `onTerms` is the terms. -/
theorem calendarIsSettledByTheTerms : Obligations.Calendar_is_settled_by_the_terms := by
  intro p s hs
  refine ⟨settleCalendar_frame p s, settleCalendar_sorted p hs, fun q hq => mem_settleCalendar_ne hq s, ?_⟩
  have hright : p ∈ (settleCalendar p s).calendar ↔ onTerms ((settleCalendar p s).pacer p) = true :=
    settleCalendar_right p s
  rw [hright, settleCalendar_pacer, onTerms_iff]

/-! ### The order of service (R51, R52) -/

/-- The rank of a pacer in the order of R52: its DUE, then its PRIORITY with the higher first, then its number. -/
def serviceRank (s : State) (p : PacerId) : Nat ×ₗ Natᵒᵈ ×ₗ PacerId :=
  toLex ((s.pacer p).due.toNat, toLex (OrderDual.toDual (s.pacer p).cfg.priority.toNat, p))

theorem servedBefore_iff_serviceRank (s : State) (p q : PacerId) :
    ServedBefore s p q ↔ serviceRank s p < serviceRank s q := by
  simp only [ServedBefore, serviceRank, Prod.Lex.toLex_lt_toLex, OrderDual.toDual_lt_toDual, BitVec.toNat_inj,
    OrderDual.toDual_inj]

theorem serviceRank_injective (s : State) : Function.Injective (serviceRank s) := fun p q h => by
  simp only [serviceRank, EmbeddingLike.apply_eq_iff_eq, Prod.mk.injEq] at h
  exact h.2.2

theorem ServedBefore.asymm {s : State} {p q : PacerId} (h : ServedBefore s p q) : ¬ServedBefore s q p := by
  rw [servedBefore_iff_serviceRank] at *
  exact h.asymm

theorem ranksBefore_iff {s : State} {p q : PacerId} : ranksBefore s p q = true ↔ serviceRank s p < serviceRank s q := by
  rw [← servedBefore_iff_serviceRank]
  simp [ranksBefore, ServedBefore]

theorem bestOf_eq_none {s : State} {l : List PacerId} (h : bestOf s l = none) : l = [] := by
  cases l with
  | nil => rfl
  | cons x rest =>
    rw [bestOf] at h
    split at h
    · cases h
    · split at h <;> cases h

/-- The pacer that `bestOf` finds ranks no later than any other in the list (R52). -/
theorem bestOf_serviceRank_le {s : State} {p : PacerId} {l : List PacerId} (h : bestOf s l = some p) :
    ∀ q ∈ l, serviceRank s p ≤ serviceRank s q := by
  induction l generalizing p with
  | nil => cases h
  | cons x rest ih =>
    rw [bestOf] at h
    cases hb : bestOf s rest with
    | none =>
      simp only [hb, Option.some.injEq] at h
      simp [bestOf_eq_none hb, h]
    | some r =>
      simp only [hb] at h
      rw [List.forall_mem_cons]
      split at h
      · rename_i hrx
        obtain rfl := Option.some.inj h
        exact ⟨(ranksBefore_iff.mp hrx).le, ih hb⟩
      · rename_i hrx
        obtain rfl := Option.some.inj h
        exact ⟨le_rfl, fun q hq => (not_lt.mp (mt ranksBefore_iff.mpr hrx)).trans (ih hb q hq)⟩

/-! ### The arbiter's look (R50, R51, R96) -/

theorem lowestFree_eq_some_iff {s : State} {n : EntryId} : s.lowestFree = some n ↔ LowestFree s n := by
  rw [State.lowestFree, ← Fin.find?_eq_find?_finRange, Fin.find?_eq_some_iff]
  simp [LowestFree]

theorem lowestFree_isSome_iff (s : State) :
    s.lowestFree.isSome = true ↔ ∃ n : EntryId, (s.entry n).state = .free := by
  simp [State.lowestFree]

/-- The arbiter looks at the calendar's pacers whose heads can depart (R50, R51). -/
theorem mem_candidates_iff {s : State} {p : PacerId} :
    p ∈ s.calendar.filter (canDepart s) ↔ ∃ req, MayDepart s p req := by
  cases hq : s.queue p with
  | nil => simp [canDepart, MayDepart, hq]
  | cons x rest =>
    simp [canDepart, MayDepart, State.laneOpen, hq, lowestFree_isSome_iff, and_assoc]

theorem winner_eq_none {s : State} (h : winner s = none) : ¬∃ p req, MayDepart s p req := by
  rintro ⟨p, hp⟩
  rw [← mem_candidates_iff, bestOf_eq_none h] at hp
  exact List.not_mem_nil hp

theorem winner_wins {s : State} {p : PacerId} (h : winner s = some p) : ∃ req, Wins s p req := by
  obtain ⟨req, hp⟩ := mem_candidates_iff.mp (bestOf_mem _ h)
  refine ⟨req, hp, fun q r hq hne => ?_⟩
  have hle := bestOf_serviceRank_le h q (mem_candidates_iff.mpr ⟨r, hq⟩)
  exact (servedBefore_iff_serviceRank s p q).mpr
    (lt_of_le_of_ne hle fun e => hne (serviceRank_injective s e).symm)

theorem Wins.unique {s : State} {p q : PacerId} {r r' : Packet} (hp : Wins s p r) (hq : Wins s q r') : p = q := by
  obtain ⟨mayp, firstp⟩ := hp
  obtain ⟨mayq, firstq⟩ := hq
  by_contra hne
  exact (firstp q r' mayq (Ne.symm hne)).asymm (firstq p r mayp hne)

theorem Wins.winner_eq {s : State} {p : PacerId} {req : Packet} (h : Wins s p req) : winner s = some p := by
  cases hw : winner s with
  | none => exact absurd ⟨p, req, h.1⟩ (winner_eq_none hw)
  | some q =>
    obtain ⟨r, hq⟩ := winner_wins hw
    rw [h.unique hq]

/-- Settles O39: the winner is the first in the order of R52 of those whose heads can depart. -/
theorem arbiterFindsAWinner : Obligations.Arbiter_finds_a_winner := by
  intro s
  refine ⟨fun h => ?_, fun p q r r' => Wins.unique, fun h => ?_⟩
  · cases hw : winner s with
    | none => exact absurd h (winner_eq_none hw)
    | some p => exact ⟨p, winner_wins hw⟩
  · have hw : winner s = none := Option.eq_none_iff_forall_ne_some.mpr fun p hw =>
      h ⟨p, (winner_wins hw).imp fun _ => And.left⟩
    simp only [exec, execDeparture, hw]

/-! ### The departure (R54 to R57) -/

theorem idleRule_eq_afterIdleRule (p : PacerId) (s : State) :
    (if (s.pacer p).state = .live then idleRule p s else s) = afterIdleRule p s := by
  by_cases hl : (s.pacer p).state = .live
  · simp [idleRule, afterIdleRule, idleRuleApplies, hl, and_assoc]
  · simp [afterIdleRule, hl]

theorem afterIdleRule_frame (p : PacerId) (s : State) : AdaptFrame p s (afterIdleRule p s) := by
  rw [← idleRule_eq_afterIdleRule]
  split
  · exact idleRule_frame p s
  · exact AdaptFrame.refl p s

theorem nextDue_eq_dueAfter (now : PacingTime) (beats : Nat) (c : Pacer) :
    nextDue now beats c = dueAfter now beats c := by
  unfold nextDue dueAfter
  split
  · rfl
  · exact apply_ite (· + BitVec.ofNat 64 (beats * charge c)) _ _ _

/-- The head's leaving and the entry's taking, recorded with the departure (R54 to R56). -/
theorem recordDeparture_eq_departed (now : PacingTime) (beats extra : Nat) (c : Pacer) :
    recordDeparture now beats { c with qlen := c.qlen - 1, flight := c.flight + extra } =
      departed now beats extra c := by
  have hq : 0 < c.qlen - 1 ↔ 1 < c.qlen := by omega
  simp only [recordDeparture, departed, hq, nextDue_eq_dueAfter]
  rfl

/-- The head of pacer `p`'s queue sent and recorded, before the pacer's place and drain are settled (R54 to R56). -/
def sentHead (p : PacerId) (req : Packet) (s : State) : State :=
  (consumeRequestCredit (sendRequest p req (removeHead p s))).modPacer p
    (recordDeparture s.clock.pacingTime req.header.beats)

theorem removeHead_clock (p : PacerId) (s : State) : (removeHead p s).clock = s.clock := by
  cases hq : s.queue p with
  | nil => rw [removeHead_nil p s hq]
  | cons x rest => rw [removeHead_cons p s x rest hq]

theorem sendRequest_clock (p : PacerId) (req : Packet) (s : State) : (sendRequest p req s).clock = s.clock := by
  unfold sendRequest
  split
  · rfl
  · split <;> rfl

/-- A departure is the idle rule, the head's sending, and the settling of the pacer's place and drain (R54). -/
theorem depart_eq (p : PacerId) (req : Packet) (s : State) :
    depart p req s = drainCheck p (settleCalendar p (sentHead p req (afterIdleRule p s))) := by
  have hclock (t : State) :
      (consumeRequestCredit (sendRequest p req (removeHead p t))).clock = t.clock := by
    rw [consumeRequestCredit_clock, sendRequest_clock, removeHead_clock]
  simp only [depart, idleRule_eq_afterIdleRule, sentHead, hclock]

section SentHead

variable {p : PacerId} {s : State} {slot : HoldSlot} {rest : List HoldSlot} {req : Packet}

/-- A WRITE_P goes out as it is (R54). -/
theorem sentHead_posted (hq : s.queue p = slot :: rest) (hp : isPosted req = true) :
    sentHead p req s =
      { s.setPacer p (departed s.clock.pacingTime req.header.beats 0 (s.pacer p)) with
        queues := tableSet s.queues p rest, creditsI := creditsAfterSlots s 1,
        creditsT := { s.creditsT with heldReq := s.creditsT.heldReq - 1 },
        linkT := { s.linkT with lane := s.linkT.lane ++ [req.wire] } } := by
  have hown : (removeHead p s).pacer p = { s.pacer p with qlen := (s.pacer p).qlen - 1 } :=
    removeHead_pacer_self hq
  have hsend : sendRequest p req (removeHead p s) = (removeHead p s).handT req := if_pos hp
  simp only [sentHead, hsend, State.modPacer_eq, consumeRequestCredit_pacer, State.handT_pacer, hown,
    ← recordDeparture_eq_departed]
  simp [removeHead_cons p s slot rest hq, State.setPacer, consumeRequestCredit, State.handT]

/-- A READ or WRITE takes the lowest FREE entry and goes out under its number (R54, R96). -/
theorem sentHead_allocated (hq : s.queue p = slot :: rest) (hp : isPosted req = false) {n : EntryId}
    (hn : LowestFree s n) :
    sentHead p req s =
      { s.setPacer p (departed s.clock.pacingTime req.header.beats 1 (s.pacer p)) with
        queues := tableSet s.queues p rest, creditsI := creditsAfterSlots s 1,
        outstanding :=
          tableSet s.outstanding n
            { state := .busy, pacer := p, tag := req.header.tag, upTxid := req.header.txid,
              kind := if isRead req then .read else .write, beats := req.header.beats,
              deadline :=
                if s.agent.respTimeout = 0 then none
                else some (s.clock.deviceTime + s.agent.respTimeout.toNat),
              orphan := false, closeCause := none, quarantineOnClose := false, quarantineEnd := none },
        creditsT := { s.creditsT with heldReq := s.creditsT.heldReq - 1 },
        linkT :=
          { s.linkT with
            lane :=
              s.linkT.lane ++
                [({ req with header := { req.header with txid := BitVec.ofNat 8 n.val } } : Packet).wire] } } := by
  have hown : (removeHead p s).pacer p = { s.pacer p with qlen := (s.pacer p).qlen - 1 } :=
    removeHead_pacer_self hq
  have hfree : (removeHead p s).lowestFree = some n := by
    rw [removeHead_cons p s slot rest hq]
    exact lowestFree_eq_some_iff.mpr hn
  have hsend : sendRequest p req (removeHead p s) =
      (allocate p n req (removeHead p s)).handT
        { req with header := { req.header with txid := BitVec.ofNat 8 n.val } } := by
    simp only [sendRequest, hp, hfree, Bool.false_eq_true, if_false]
  simp only [sentHead, hsend, ← recordDeparture_eq_departed]
  simp [removeHead_cons p s slot rest hq, State.setPacer, State.pacer, consumeRequestCredit, State.handT, allocate,
    State.setEntry, State.periodEnd]

end SentHead

theorem Wins.exec_departure {s : State} {p : PacerId} {slot : HoldSlot} {rest : List HoldSlot}
    (h : Wins s p slot.request) (hq : s.queue p = slot :: rest) :
    exec .departure s =
      .next (drainCheck p (settleCalendar p (sentHead p slot.request (afterIdleRule p s)))) := by
  have he : exec .departure s = execDeparture s := rfl
  rw [he, execDeparture, h.winner_eq]
  simp only [hq, depart_eq]

/-- Adaptation changes nothing of what a departure reads and writes but the pacer's own context. -/
theorem AdaptFrame.departureFields {p : PacerId} {s t : State} (f : AdaptFrame p s t) :
    t.clock = s.clock ∧ t.queues = s.queues ∧ t.creditsT = s.creditsT ∧ t.linkT = s.linkT ∧
      t.outstanding = s.outstanding ∧ t.agent = s.agent ∧ creditsAfterSlots t 1 = creditsAfterSlots s 1 := by
  have h := f.rest
  have hcredits : creditsAfterSlots t 1 = creditsAfterSlots { t with linkI := s.linkI } 1 := by
    simp only [creditsAfterSlots, f.link]
  rw [hcredits, ← h]
  exact ⟨rfl, rfl, rfl, rfl, rfl, rfl, rfl⟩

/-- Settles O40: the arbiter takes the winner, and its head is sent from the state the idle rule leaves, by the two ways of
R54's step 3. -/
theorem departureSendsTheWinner : Obligations.Departure_sends_the_winner := by
  intro s p slot rest hw hq
  have f := afterIdleRule_frame p s
  obtain ⟨hclock, hqueues, hcreditsT, hlinkT, hentries, hagent, hcreditsI⟩ := f.departureFields
  have hqa : (afterIdleRule p s).queue p = slot :: rest := (f.queue p).trans hq
  refine ⟨fun hp => ?_, fun n hp hn => ?_⟩
  · rw [hw.exec_departure hq, sentHead_posted hqa hp, hclock, hqueues, hcreditsT, hlinkT, hcreditsI]
  · have hna : LowestFree (afterIdleRule p s) n := by
      simpa only [LowestFree, f.entry] using hn
    rw [hw.exec_departure hq, sentHead_allocated hqa hp hna, hclock, hqueues, hcreditsT, hlinkT, hentries, hagent,
      hcreditsI]

/-! ### The settings and the bindings (R45, R78, R79, R175) -/

/-- A WRITE that is taken as it arrives, by what the word's rule leaves and its status. -/
theorem writeArrives_done {s e : State} {src : Sender} {w : WindowWord} {v : MgmtWord} {status : BitVec 5}
    (ho : MgmtOpen s src) (h : writeWord src.tag w v s = withStatus (e, status)) :
    writeArrives src w v s = writeDone s e src w v status := by
  rw [writeArrives_eq ho, h]
  rfl

theorem anyPaced_iff (s : State) :
    anyPaced s = true ↔ ∃ p : PacerId, (s.pacer p).state = .live ∨ (s.pacer p).state = .draining := by
  simp [anyPaced]

section WrittenBinding

variable {v : MgmtWord}

theorem bindRequest_none (hb : v.getLsbD 15 = false) : bindRequest v = .none := by
  rw [bindRequest, if_neg (by simp only [hb, Bool.false_eq_true, not_false_eq_true])]

theorem bindRequest_badPacer (hb : v.getLsbD 15 = true) (hv : 128 ≤ (v.extractLsb' 0 8).toNat) :
    bindRequest v = .badPacer := by
  rw [bindRequest, if_pos hb, dif_neg (by omega)]

theorem bindRequest_pacer {p : PacerId} (hb : v.getLsbD 15 = true) (hv : (v.extractLsb' 0 8).toNat = p.val) :
    bindRequest v = .pacer p := by
  have hlt : (v.extractLsb' 0 8).toNat < 128 := by omega
  rw [bindRequest, if_pos hb, dif_pos hlt]
  exact congrArg BindRequest.pacer (Fin.ext hv)

end WrittenBinding

section SettingRows

variable {s e : State} {src : Sender} {v : MgmtWord} {status : BitVec 5}

theorem exec_tickLenWrite (ho : MgmtOpen s src) (h : writeTickLen v s = (e, status)) :
    exec (.tickLenWrite src v) s = .next (writeDone s e src .tickLen v status) :=
  congrArg Host.Outcome.next (writeArrives_done ho (congrArg withStatus h))

theorem exec_defaultPacerWrite (ho : MgmtOpen s src) (h : writeDefaultPacer v s = (e, status)) :
    exec (.defaultPacerWrite src v) s = .next (writeDone s e src .defaultPacer v status) :=
  congrArg Host.Outcome.next (writeArrives_done ho (congrArg withStatus h))

theorem exec_tagMapWrite {g : Tag} (ho : MgmtOpen s src) (h : writeTagMap g v s = (e, status)) :
    exec (.tagMapWrite src g v) s = .next (writeDone s e src (.tagMap g) v status) :=
  congrArg Host.Outcome.next (writeArrives_done ho (congrArg withStatus h))

end SettingRows

/-- Settles O58: TICK_LEN by whether a pacer is paced and the range; the two bindings alike, by what their word asks for and
whether the pacer it names is bindable. -/
theorem settingsAndBindingsAreWritten : Obligations.Settings_and_bindings_are_written := by
  intro src v g s ho
  refine ⟨fun hp => ?_, fun hp hr => ?_, fun hp hlow hhigh => ?_, fun hb => ?_, fun hb hv => ?_, fun p hb hv => ?_⟩
  · exact exec_tickLenWrite ho (if_pos ((anyPaced_iff s).mpr hp))
  · refine exec_tickLenWrite ho ((if_neg (mt (anyPaced_iff s).mp hp)).trans (if_neg ?_))
    omega
  · exact exec_tickLenWrite ho ((if_neg (mt (anyPaced_iff s).mp hp)).trans (if_pos ⟨hlow, hhigh⟩))
  · have hr := bindRequest_none hb
    exact ⟨exec_defaultPacerWrite ho (by rw [writeDefaultPacer, hr]; rfl),
      exec_tagMapWrite ho (by rw [writeTagMap, hr]; rfl)⟩
  · have hr := bindRequest_badPacer hb hv
    exact ⟨exec_defaultPacerWrite ho (by rw [writeDefaultPacer, hr]; rfl),
      exec_tagMapWrite ho (by rw [writeTagMap, hr]; rfl)⟩
  · have hr := bindRequest_pacer hb hv
    refine ⟨fun hp => ?_, fun hp => ?_⟩
    · exact ⟨exec_defaultPacerWrite ho (by rw [writeDefaultPacer, hr]; exact if_pos hp),
        exec_tagMapWrite ho (by rw [writeTagMap, hr]; exact if_pos hp)⟩
    · exact ⟨exec_defaultPacerWrite ho (by rw [writeDefaultPacer, hr]; exact if_neg (by simp [hp])),
        exec_tagMapWrite ho (by rw [writeTagMap, hr]; exact if_neg (by simp [hp]))⟩

end Sys2Proof.Machine
end

section
/-!
PROOFS. The credit law in the middle of an event (R74, R114, R127, R142, R164, R174).

An event breaks the law and mends it: a request that came under its credit stands in no store yet, a slot that was left has
not returned its credit, a port whose counts a link reset cleared has not sent its INIT. `Unsettled` says what stands in
between. Whatever the law does not read, and a packet handed to a lane, is a `CreditFrame`.
-/

namespace Sys2Proof.Machine

/-! ### The law but for what an event still has to settle -/

/-- The packet carries the check word of what is sent (R174). -/
def WirePacket.Checked (w : WirePacket) : Prop := w.check = Config.checkWord w.packet.header.toBits w.packet.data

/-- What an event still has to settle: the port that has to send an INIT, and the hold slots and the target share's entries
that it has in hand, taken under a credit and standing in no store. -/
structure Unsettled where
  init : Option PortId := none
  slots : Nat := 0
  responses : Nat := 0

/-- The credit law but for what the event still has to settle. -/
structure CreditLawBut (u : Unsettled) (s : State) : Prop where
  traffic : u.init ≠ some .i → s.linkI.state.countsReturns = true →
    s.creditsI.givenTraffic + (s.occupiedSlots + u.slots) = Config.holdSlots
  slots : s.occupiedSlots + u.slots ≤ Config.holdSlots
  mgmt : u.init ≠ some .i → s.linkI.state.countsReturns = true →
    s.creditsI.givenMgmt + s.mgmtQueue.length = Config.mgmtEntries
  requests : s.mgmtQueue.length ≤ Config.mgmtEntries
  target : u.init ≠ some .t → s.linkT.state.countsReturns = true →
    s.creditsT.givenResp + (s.targetCount + u.responses) = Config.targetShare
  targetShare : s.targetCount + u.responses ≤ Config.targetShare
  bridgeShare : s.bridgeCount ≤ Config.bridgeShare
  heldResp : s.creditsI.heldResp ≤ s.creditsI.grantResp
  heldReq : s.creditsT.heldReq ≤ s.creditsT.grantReq
  checksI : ∀ w ∈ s.linkI.lane, WirePacket.Checked w
  checksT : ∀ w ∈ s.linkT.lane, WirePacket.Checked w

theorem creditLaw_iff (s : State) : CreditLaw s ↔ CreditLawBut {} s where
  mp h := ⟨fun _ => h.traffic, h.slots, fun _ => h.mgmt, h.requests, fun _ => h.target, h.targetShare, h.bridgeShare,
    h.heldResp, h.heldReq, h.checksI, h.checksT⟩
  mpr h := ⟨h.traffic nofun, h.slots, h.mgmt nofun, h.requests, h.target nofun, h.targetShare, h.bridgeShare, h.heldResp,
    h.heldReq, h.checksI, h.checksT⟩

theorem CreditLaw.but {s : State} (h : CreditLaw s) : CreditLawBut {} s := (creditLaw_iff s).mp h

theorem CreditLawBut.law {s : State} (h : CreditLawBut {} s) : CreditLaw s := (creditLaw_iff s).mpr h

/-- The law claims no sum of a port in whose state no return counts (R127, R165). -/
theorem CreditLawBut.law_of_silent {p : PortId} {s : State} (h : CreditLawBut { init := some p } s)
    (hp : (s.link p).state.countsReturns = false) : CreditLaw s := by
  have silent {q : PortId} {P : Prop} (hs : some p ≠ some q → (s.link q).state.countsReturns = true → P)
      (hc : (s.link q).state.countsReturns = true) : P := by
    refine hs (fun e => ?_) hc
    cases e
    rw [hp] at hc
    cases hc
  exact ⟨silent (q := .i) h.traffic, h.slots, silent (q := .i) h.mgmt, h.requests, silent (q := .t) h.target,
    h.targetShare, h.bridgeShare, h.heldResp, h.heldReq, h.checksI, h.checksT⟩

/-! ### What the law does not read -/

/-- What the law reads of the state, but for the hold slots and the lanes. -/
def State.creditReads (s : State) :
    (Bool × Bool) × (Nat × Nat × Nat × Nat) × (Nat × Nat × Nat) × Nat × Nat × Nat :=
  ((s.linkI.state.countsReturns, s.linkT.state.countsReturns),
    (s.creditsI.givenTraffic, s.creditsI.givenMgmt, s.creditsI.heldResp, s.creditsI.grantResp),
    (s.creditsT.givenResp, s.creditsT.heldReq, s.creditsT.grantReq),
    s.mgmtQueue.length, s.targetCount, s.bridgeCount)

/-- What the law reads is as it was, but that packets with their check words may have joined the lanes. -/
structure CreditFrame (s t : State) : Prop where
  reads : t.creditReads = s.creditReads
  slots : t.occupiedSlots = s.occupiedSlots
  laneI : ∀ w ∈ t.linkI.lane, w ∈ s.linkI.lane ∨ WirePacket.Checked w
  laneT : ∀ w ∈ t.linkT.lane, w ∈ s.linkT.lane ∨ WirePacket.Checked w

theorem CreditFrame.keep {s t : State} (reads : t.creditReads = s.creditReads)
    (slots : t.occupiedSlots = s.occupiedSlots) (lanes : (t.linkI.lane, t.linkT.lane) = (s.linkI.lane, s.linkT.lane)) :
    CreditFrame s t := by
  obtain ⟨hi, ht⟩ := Prod.mk.inj lanes
  exact ⟨reads, slots, fun _ hw => .inl (hi ▸ hw), fun _ hw => .inl (ht ▸ hw)⟩

theorem CreditFrame.refl (s : State) : CreditFrame s s := .keep rfl rfl rfl

theorem CreditFrame.trans {s t u : State} (f : CreditFrame s t) (g : CreditFrame t u) : CreditFrame s u :=
  ⟨g.reads.trans f.reads, g.slots.trans f.slots, fun w hw => (g.laneI w hw).elim (f.laneI w) .inr,
    fun w hw => (g.laneT w hw).elim (f.laneT w) .inr⟩

/-- A frame of a state of which the law reads the same. -/
theorem CreditFrame.after {s t u : State} (g : CreditFrame t u) (reads : t.creditReads = s.creditReads)
    (slots : t.occupiedSlots = s.occupiedSlots) (lanes : (t.linkI.lane, t.linkT.lane) = (s.linkI.lane, s.linkT.lane)) :
    CreditFrame s u :=
  (CreditFrame.keep reads slots lanes).trans g

/-- Slots may go from hand into the stores, or out of them into hand. -/
theorem CreditLawBut.move {u : Unsettled} {s t : State} (n : Nat) (h : CreditLawBut u s)
    (occupied : t.occupiedSlots + n = s.occupiedSlots + u.slots) (reads : t.creditReads = s.creditReads)
    (laneI : ∀ w ∈ t.linkI.lane, w ∈ s.linkI.lane ∨ WirePacket.Checked w)
    (laneT : ∀ w ∈ t.linkT.lane, w ∈ s.linkT.lane ∨ WirePacket.Checked w) : CreditLawBut { u with slots := n } t := by
  simp only [State.creditReads, Prod.mk.injEq] at reads
  obtain ⟨⟨hi, ht⟩, ⟨htraffic, hmgmt, hheld, hgrant⟩, ⟨hresp, hreq, hreqGrant⟩, hrequests, htarget, hbridge⟩ := reads
  exact
    { traffic := by rw [hi, htraffic, occupied]; exact h.traffic
      slots := by rw [occupied]; exact h.slots
      mgmt := by rw [hi, hmgmt, hrequests]; exact h.mgmt
      requests := by rw [hrequests]; exact h.requests
      target := by rw [ht, hresp, htarget]; exact h.target
      targetShare := by rw [htarget]; exact h.targetShare
      bridgeShare := by rw [hbridge]; exact h.bridgeShare
      heldResp := by rw [hheld, hgrant]; exact h.heldResp
      heldReq := by rw [hreq, hreqGrant]; exact h.heldReq
      checksI := fun w hw => (laneI w hw).elim (h.checksI w) id
      checksT := fun w hw => (laneT w hw).elim (h.checksT w) id }

theorem CreditLawBut.frame {u : Unsettled} {s t : State} (h : CreditLawBut u s) (f : CreditFrame s t) :
    CreditLawBut u t :=
  h.move u.slots (by rw [f.slots]) f.reads f.laneI f.laneT

theorem CreditLaw.frame {s t : State} (h : CreditLaw s) (f : CreditFrame s t) : CreditLaw t := (h.but.frame f).law

/-- A packet handed to a port carries its check word (R174). -/
theorem mem_lane_append_wire {w : WirePacket} {lane : List WirePacket} {pkt : Packet} (hw : w ∈ lane ++ [pkt.wire]) :
    w ∈ lane ∨ WirePacket.Checked w := by
  rcases List.mem_append.mp hw with hw | hw
  · exact .inl hw
  · rw [List.mem_singleton.mp hw]
    exact .inr rfl

theorem handI_creditFrame (pkt : Packet) (s : State) : CreditFrame s (s.handI pkt) :=
  ⟨rfl, rfl, fun _ => mem_lane_append_wire, fun _ => .inl⟩

theorem handT_creditFrame (pkt : Packet) (s : State) : CreditFrame s (s.handT pkt) :=
  ⟨rfl, rfl, fun _ => .inl, fun _ => mem_lane_append_wire⟩

theorem hand_creditFrame (p : PortId) (pkt : Packet) (s : State) : CreditFrame s (s.hand p pkt) := by
  cases p with
  | i => exact handI_creditFrame pkt s
  | t => exact handT_creditFrame pkt s

/-- An item that holds no slot joins the Reply List (R66, R118). -/
theorem pushReply_creditFrame {i : ReplyItem} (hi : i.holdsRefusedSlot = false) (s : State) :
    CreditFrame s (pushReply i s) := by
  refine .keep rfl ?_ rfl
  simp [State.occupiedSlots, State.refusalPending, pushReply, hi, State.queuedSlots]

/-! ### Notices and adaptation -/

theorem State.alertDue_creditFrame (s : State) : CreditFrame s s.alertDue := by
  unfold State.alertDue
  dsimp only
  split
  · exact (handI_creditFrame _ _).after rfl rfl rfl
  · exact .keep rfl rfl rfl

theorem State.enterNotice_creditFrame (s : State) (b : NoticeBody) : CreditFrame s (s.enterNotice b) := by
  unfold State.enterNotice
  dsimp only
  split
  · exact (State.alertDue_creditFrame _).after rfl rfl rfl
  · exact .keep rfl rfl rfl

theorem State.plainNotice_creditFrame (s : State) (b : NoticeBody) : CreditFrame s (s.plainNotice b) := by
  unfold State.plainNotice
  split
  · split
    · exact s.enterNotice_creditFrame b
    · exact .keep rfl rfl rfl
  · exact .refl s

theorem crossing_creditFrame (p : PacerId) (b : NoticeBody) (s : State) : CreditFrame s (crossing p b s) := by
  unfold crossing
  split
  · split
    · exact .keep rfl rfl rfl
    · split
      · exact (s.enterNotice_creditFrame b).trans (.keep rfl rfl rfl)
      · exact .keep rfl rfl rfl
  · exact .refl s

theorem crossingCheck_creditFrame (p : PacerId) (s : State) : CreditFrame s (crossingCheck p s) := by
  unfold crossingCheck
  split
  · exact (crossing_creditFrame p _ _).after rfl rfl rfl
  · exact (crossing_creditFrame p _ _).after rfl rfl rfl
  · exact .refl s

/-- A change of the pacer's context, and then the crossing check. -/
theorem setPacer_check_creditFrame (p : PacerId) (c : Pacer) (s : State) :
    CreditFrame s (crossingCheck p (s.setPacer p c)) :=
  (crossingCheck_creditFrame p _).after rfl rfl rfl

theorem windowResponse_creditFrame (p : PacerId) (marked : Bool) (s : State) :
    CreditFrame s (windowResponse p marked s) := by
  unfold windowResponse
  dsimp only
  split
  · exact setPacer_check_creditFrame p _ s
  · exact .keep rfl rfl rfl

theorem countedResponse_creditFrame (p : PacerId) (m : Pressure) (s : State) :
    CreditFrame s (countedResponse p m s) := by
  unfold countedResponse
  split
  · cases m with
    | clear => exact windowResponse_creditFrame p false s
    | light => exact windowResponse_creditFrame p true s
    | heavy => exact setPacer_check_creditFrame p _ s
    | halt => exact setPacer_check_creditFrame p _ s
  · exact .refl s

theorem timeoutHalt_creditFrame (p : PacerId) (s : State) : CreditFrame s (timeoutHalt p s) := by
  unfold timeoutHalt
  split
  · exact setPacer_check_creditFrame p _ s
  · exact .refl s

theorem idleRule_creditFrame (p : PacerId) (s : State) : CreditFrame s (idleRule p s) := by
  unfold idleRule
  split
  · exact setPacer_check_creditFrame p _ s
  · exact .refl s

/-! ### The calendar and drains -/

theorem settleCalendar_creditFrame (p : PacerId) (s : State) : CreditFrame s (settleCalendar p s) := by
  unfold settleCalendar
  split <;> exact .keep rfl rfl rfl

theorem startSweep_creditFrame (s : State) : CreditFrame s (startSweep s) := by
  unfold startSweep
  split <;> exact .keep rfl rfl rfl

theorem drainCheck_creditFrame (p : PacerId) (s : State) : CreditFrame s (drainCheck p s) := by
  unfold drainCheck
  split
  · exact (startSweep_creditFrame _).after rfl rfl rfl
  · exact .refl s

theorem drainCheckAll_creditFrame (l : List PacerId) (s : State) : CreditFrame s (drainCheckAll l s) := by
  induction l generalizing s with
  | nil => exact .refl s
  | cons p rest ih => exact (drainCheck_creditFrame p s).trans (ih _)

theorem completeDrains_creditFrame (s : State) : CreditFrame s (completeDrains s) :=
  (drainCheckAll_creditFrame _ _).after rfl rfl rfl

theorem flightFell_creditFrame (p : PacerId) (s : State) : CreditFrame s (flightFell p s) :=
  (settleCalendar_creditFrame p s).trans (drainCheck_creditFrame p _)

end Sys2Proof.Machine
end

section
/-!
PROOFS. Every step keeps the credit law: the stores of requests and responses.
-/

namespace Sys2Proof.Machine

/-! ### The hold slots (R63 to R70, R74) -/

theorem sum_length_set {α : Type} (l : List (List α)) (i : Nat) (hi : i < l.length) (x : List α) :
    ((l.set i x).map List.length).sum + l[i].length = (l.map List.length).sum + x.length := by
  induction l generalizing i with
  | nil => cases hi
  | cons y ys ih =>
    cases i with
    | zero => simp only [List.set_cons_zero, List.map_cons, List.sum_cons, List.getElem_cons_zero]; omega
    | succ i =>
      have := ih i (by simpa using hi)
      simp only [List.set_cons_succ, List.map_cons, List.sum_cons, List.getElem_cons_succ]
      omega

/-- One queue is replaced, and whatever is no queue. -/
theorem queuedSlots_of_setQueue {s t : State} {p : PacerId} {q : List HoldSlot}
    (ht : t.queues = tableSet s.queues p q) : t.queuedSlots + (s.queue p).length = s.queuedSlots + q.length := by
  have h := sum_length_set s.queues.toList p.val (by simp) q
  have hl : t.queues.toList = s.queues.toList.set p.val q := by rw [ht, tableSet, Vector.toList_set]
  rw [State.queuedSlots, State.queuedSlots, hl]
  exact h

/-- An arriving traffic request is in hand once its credit is spent (R163). -/
theorem CreditLaw.spendTraffic {s : State} (h : CreditLaw s) (hl : s.linkI.state = .up)
    (hc : 0 < s.creditsI.givenTraffic) :
    CreditLawBut { slots := 1 }
      { s with creditsI := { s.creditsI with givenTraffic := s.creditsI.givenTraffic - 1 } } := by
  have sum : s.creditsI.givenTraffic + s.occupiedSlots = Config.holdSlots := h.traffic (by rw [hl]; rfl)
  have spent : s.creditsI.givenTraffic - 1 + (s.occupiedSlots + 1) = Config.holdSlots := by omega
  exact { h.but with traffic := fun _ _ => spent, slots := Nat.le.intro (Nat.add_comm _ _ ▸ spent) }

/-- A slot that was left returns its credit (R67, R165). -/
theorem CreditLawBut.returnTraffic {s : State} (h : CreditLawBut { slots := 1 } s) : CreditLaw s.returnTraffic := by
  have room : s.occupiedSlots ≤ Config.holdSlots := Nat.le_of_succ_le h.slots
  unfold State.returnTraffic
  split
  · rename_i hc
    have sum : s.creditsI.givenTraffic + (s.occupiedSlots + 1) = Config.holdSlots := h.traffic nofun hc
    have returned : s.creditsI.givenTraffic + 1 + s.occupiedSlots = Config.holdSlots := by omega
    exact CreditLawBut.law { h with traffic := fun _ _ => returned, slots := room }
  · rename_i hc
    exact CreditLawBut.law { h with traffic := fun _ ht => absurd ht hc, slots := room }

theorem removeHead_creditLaw (p : PacerId) {s : State} (h : CreditLaw s) : CreditLaw (removeHead p s) := by
  cases hq : s.queue p with
  | nil => rwa [removeHead_nil p s hq]
  | cons x rest =>
    simp only [removeHead, hq]
    refine CreditLawBut.returnTraffic (h.but.move 1 ?_ rfl (fun _ => .inl) (fun _ => .inl))
    have hs := queuedSlots_of_setQueue (s := s) (t := s.setQueue p rest) (p := p) (q := rest) rfl
    rw [hq, List.length_cons] at hs
    show (s.setQueue p rest).queuedSlots + s.refusalPending + 1 = s.queuedSlots + s.refusalPending + 0
    omega

theorem joinQueue_creditLaw (p : PacerId) (pkt : Packet) {s : State} (h : CreditLawBut { slots := 1 } s) :
    CreditLaw (joinQueue p pkt s) := by
  refine CreditLawBut.law (h.move 0 ?_ rfl (fun _ => .inl) (fun _ => .inl))
  have hs := queuedSlots_of_setQueue (s := s) (t := joinQueue p pkt s) (p := p)
    (q := s.queue p ++ [{ request := pkt, aborting := false }]) rfl
  rw [List.length_append, List.length_singleton] at hs
  show (joinQueue p pkt s).queuedSlots + s.refusalPending + 0 = s.queuedSlots + s.refusalPending + 1
  omega

/-- A refused READ or WRITE keeps its slot in its item (R66, R86). -/
theorem pushRefusal_creditLaw (pkt : Packet) (cause : RefusalCause) (p : Option PacerId) {s : State}
    (h : CreditLawBut { slots := 1 } s) : CreditLaw (pushReply (.refusal pkt cause p) s) := by
  refine CreditLawBut.law (h.move 0 ?_ rfl (fun _ => .inl) (fun _ => .inl))
  simp only [State.occupiedSlots, State.refusalPending, State.queuedSlots, pushReply, List.countP_append,
    List.countP_singleton, ReplyItem.holdsRefusedSlot, if_true]
  omega

theorem abortHead_creditLaw (p : PacerId) (x : HoldSlot) (rest : List HoldSlot) {s : State} (hq : s.queue p = x :: rest)
    (h : CreditLaw s) : CreditLaw (abortHead p x rest s) := by
  refine h.frame (CreditFrame.trans (t := s.setQueue p ({ x with aborting := true } :: rest)) (.keep rfl ?_ rfl)
    (pushReply_creditFrame rfl _))
  have hs := queuedSlots_of_setQueue (s := s) (t := s.setQueue p ({ x with aborting := true } :: rest)) rfl
  rw [hq, List.length_cons, List.length_cons] at hs
  show (s.setQueue p _).queuedSlots + s.refusalPending = s.queuedSlots + s.refusalPending
  omega

/-- A dropped posted write returns its slot's credit; an aborted head keeps its slot (R69). -/
theorem discardFrom_creditLaw (p : PacerId) (l : List HoldSlot) {s : State} (hq : s.queue p = l) (h : CreditLaw s) :
    CreditLaw (discardFrom p l s) := by
  induction l generalizing s with
  | nil => exact h
  | cons x rest ih =>
    unfold discardFrom
    split
    · exact ih (removeHead_queue_self hq) ((removeHead_creditLaw p h).frame (.keep rfl rfl rfl))
    · split
      · exact h
      · exact abortHead_creditLaw p x rest hq h

theorem processDiscard_creditLaw (p : PacerId) {s : State} (h : CreditLaw s) : CreditLaw (processDiscard p s) :=
  (discardFrom_creditLaw p _ rfl h).frame (drainCheck_creditFrame p _)

/-! ### Traffic requests (R82 to R87, R163) -/

theorem enqueue_creditLaw (p : PacerId) (pkt : Packet) {s : State} (h : CreditLawBut { slots := 1 } s) :
    CreditLaw (enqueue p pkt s) := by
  unfold enqueue
  dsimp only
  split
  · exact (joinQueue_creditLaw p pkt h).frame (.keep rfl rfl rfl)
  · exact joinQueue_creditLaw p pkt h

theorem countRefusal_creditFrame (p : Option PacerId) (s : State) : CreditFrame s (countRefusal p s) := by
  cases p with
  | none => exact .refl s
  | some p => exact .keep rfl rfl rfl

theorem refuseArrival_creditLaw (pkt : Packet) (cause : RefusalCause) (p : Option PacerId) {s : State}
    (h : CreditLawBut { slots := 1 } s) : CreditLaw (refuseArrival pkt cause p s) := by
  have hc := h.frame ((countRefusal_creditFrame p (s.bump cause.counter)).after rfl rfl rfl)
  unfold refuseArrival
  dsimp only
  split
  · exact hc.returnTraffic.frame (.keep rfl rfl rfl)
  · exact pushRefusal_creditLaw pkt cause p hc

theorem intake_creditLaw (pkt : Packet) {s : State} (h : CreditLawBut { slots := 1 } s) : CreditLaw (intake pkt s) := by
  unfold intake
  cases judgeArrival s pkt.header with
  | admitted p => exact enqueue_creditLaw p pkt h
  | refused cause p => exact refuseArrival_creditLaw pkt cause p h

/-! ### Management requests (R142 to R144) -/

/-- An arriving management request spends its credit and joins the queue (R142, R163). -/
theorem CreditLaw.joinRequest {pkt : Packet} {s : State} (h : CreditLaw s) (hl : s.linkI.state = .up)
    (hc : 0 < s.creditsI.givenMgmt) :
    CreditLaw
      { s with
        creditsI := { s.creditsI with givenMgmt := s.creditsI.givenMgmt - 1 }, mgmtQueue := s.mgmtQueue ++ [pkt] } := by
  have sum : s.creditsI.givenMgmt + s.mgmtQueue.length = Config.mgmtEntries := h.mgmt (by rw [hl]; rfl)
  have joined : s.creditsI.givenMgmt - 1 + (s.mgmtQueue ++ [pkt]).length = Config.mgmtEntries := by
    rw [List.length_append, List.length_singleton]
    omega
  exact { h with mgmt := fun _ => joined, requests := Nat.le.intro (Nat.add_comm _ _ ▸ joined) }

/-- The head of the Management Queue leaves and returns its credit (R142). -/
theorem freeMgmtHead_creditLaw {s : State} (h : CreditLaw s) : CreditLaw (freeMgmtHead s) := by
  unfold freeMgmtHead
  split
  · exact h
  · rename_i x rest hq
    have fewer : rest.length + 1 = s.mgmtQueue.length := by rw [hq, List.length_cons]
    have room : rest.length ≤ Config.mgmtEntries := by
      have := h.requests
      omega
    unfold State.returnMgmt
    split
    · rename_i hc
      have sum : s.creditsI.givenMgmt + s.mgmtQueue.length = Config.mgmtEntries := h.mgmt hc
      have returned : s.creditsI.givenMgmt + 1 + rest.length = Config.mgmtEntries := by omega
      exact { h with mgmt := fun _ => returned, requests := room }
    · rename_i hc
      exact { h with mgmt := fun ht => absurd ht hc, requests := room }

theorem withdrawCrossing_creditFrame (p : PacerId) (s : State) : CreditFrame s (withdrawCrossing p s) := by
  unfold withdrawCrossing
  split
  · exact .keep rfl rfl rfl
  · exact .refl s

theorem CommandEffect.creditLaw {s t : State} (e : CommandEffect s t) (h : CreditLaw s) : CreditLaw t := by
  have retire (p : PacerId) (m : RetireMode) : CreditLaw ((withdrawCrossing p s).modPacer p (drainingPacer m)) :=
    (h.frame (withdrawCrossing_creditFrame p s)).frame (.keep rfl rfl rfl)
  cases e with
  | none => exact h
  | rearms =>
    unfold rearmAlert
    dsimp only
    split
    · exact h.frame ((State.alertDue_creditFrame _).after rfl rfl rfl)
    · exact h.frame (.keep rfl rfl rfl)
  | stages => exact h.frame (.keep rfl rfl rfl)
  | @starts p _ => exact (h.frame (setPacer_check_creditFrame p _ s)).frame (settleCalendar_creditFrame p _)
  | pauses => exact h.frame (.keep rfl rfl rfl)
  | @resumes p _ => exact h.frame ((settleCalendar_creditFrame p _).after rfl rfl rfl)
  | @flushes p _ =>
    exact ((retire p .flush).frame (settleCalendar_creditFrame p _)).frame (drainCheck_creditFrame p _)
  | @discards p _ => exact processDiscard_creditLaw p ((retire p .discard).frame (.keep rfl rfl rfl))
  | @turns p _ _ => exact processDiscard_creditLaw p (h.frame (.keep rfl rfl rfl))
  | spaces => exact h.frame (.keep rfl rfl rfl)
  | @respaces p _ _ => exact h.frame (setPacer_check_creditFrame p _ s)

theorem popNotice_creditFrame (s : State) : CreditFrame s (popNotice s) := by
  unfold popNotice
  split
  · exact .keep rfl rfl rfl
  · dsimp only
    split <;> exact .keep rfl rfl rfl

theorem writeEnables_creditFrame (v : BitVec 8) (s : State) : CreditFrame s (writeEnables v s) := by
  unfold writeEnables
  dsimp only
  split
  · exact .keep rfl rfl rfl
  · split
    · exact (State.alertDue_creditFrame _).after rfl rfl rfl
    · exact .keep rfl rfl rfl

/-- A management request reaches the stores through a command alone (R13, R69). -/
theorem RequestEffect.creditLaw {s t : State} (e : RequestEffect s t) (h : CreditLaw s) : CreditLaw t := by
  cases e with
  | denies g => exact h.frame ((State.plainNotice_creditFrame _ _).after rfl rfl rfl)
  | pops => exact h.frame (popNotice_creditFrame s)
  | setsEnables x => exact h.frame (writeEnables_creditFrame x s)
  | @rewritesAndChecks p _ _ _ _ _ => exact h.frame (setPacer_check_creditFrame p _ s)
  | commands last he => exact (he.creditLaw h).frame (.keep rfl rfl rfl)
  | _ => exact h.frame (.keep rfl rfl rfl)

theorem takeRequest_creditLaw (pkt : Packet) (s : State) (h : CreditLaw s) : CreditLaw (takeRequest pkt s) :=
  (((judgeRequest_effect pkt s).creditLaw h).frame
    (pushReply_creditFrame (i := .mgmt _ _ _) rfl _)).frame (.keep rfl rfl rfl)

theorem dropMgmtPosted_creditLaw (s : State) (h : CreditLaw s) : CreditLaw (dropMgmtPosted s) :=
  (freeMgmtHead_creditLaw h).frame (.keep rfl rfl rfl)

theorem agentLook_creditLaw {s : State} (h : CreditLaw s) : CreditLaw (agentLook s) :=
  agentLook_induction dropMgmtPosted_creditLaw takeRequest_creditLaw h

/-! ### The target share (R97 to R103, R114, R117) -/

/-- An arriving response is in hand once its credit is spent (R163). -/
theorem CreditLaw.spendResponse {s : State} (h : CreditLaw s) (hl : s.linkT.state = .up)
    (hc : 0 < s.creditsT.givenResp) :
    CreditLawBut { responses := 1 }
      { s with creditsT := { s.creditsT with givenResp := s.creditsT.givenResp - 1 } } := by
  have sum : s.creditsT.givenResp + s.targetCount = Config.targetShare := h.target (by rw [hl]; rfl)
  have spent : s.creditsT.givenResp - 1 + (s.targetCount + 1) = Config.targetShare := by omega
  exact { h.but with target := fun _ _ => spent, targetShare := Nat.le.intro (Nat.add_comm _ _ ▸ spent) }

/-- Entries that were left return their credits (R117, R165). -/
theorem CreditLawBut.returnResponses {u : Unsettled} {n : Nat} {s : State}
    (h : CreditLawBut { u with responses := n } s) : CreditLawBut { u with responses := 0 } (s.returnResponses n) := by
  have room : s.targetCount ≤ Config.targetShare := (Nat.le_add_right _ n).trans h.targetShare
  unfold State.returnResponses
  split
  · rename_i hc
    have returned (hu : u.init ≠ some .t) : s.creditsT.givenResp + n + s.targetCount = Config.targetShare := by
      have sum : s.creditsT.givenResp + (s.targetCount + n) = Config.targetShare := h.target hu hc
      omega
    exact { h with target := fun hu _ => returned hu, targetShare := room }
  · rename_i hc
    exact { h with target := fun _ ht => absurd ht hc, targetShare := room }

theorem CreditLawBut.returnResponse {s : State} (h : CreditLawBut { responses := 1 } s) :
    CreditLaw (s.returnResponses 1) := (CreditLawBut.returnResponses (u := {}) h).law

/-- A forwarded response stands in the target share (R101). -/
theorem forward_creditLaw (pkt : Packet) (x : Txid) {s : State} (h : CreditLawBut { responses := 1 } s) :
    CreditLaw (forward pkt x s) := by
  have ht : (forward pkt x s).targetCount = s.targetCount + 1 := by
    simp [State.targetCount, forward, BufferedResponse.fromTarget]
  have hb : (forward pkt x s).bridgeCount = s.bridgeCount := by
    simp [State.bridgeCount, forward, BufferedResponse.fromTarget]
  refine CreditLawBut.law { h with target := ?_, targetShare := ?_, bridgeShare := ?_ }
  · intro hu hc
    rw [ht]
    exact h.target hu hc
  · rw [ht]
    exact h.targetShare
  · rw [hb]
    exact h.bridgeShare

theorem matchedResponse_creditLaw (pkt : Packet) (n : EntryId) {s : State} (h : CreditLawBut { responses := 1 } s) :
    CreditLaw (matchedResponse pkt n s) := by
  have hc := h.frame (countedResponse_creditFrame (s.entry n).pacer (Pressure.ofCode pkt.header.pressure) s)
  have hl : CreditLawBut { responses := 1 } ((lowerFlight (s.entry n).pacer (countedResponse (s.entry n).pacer
      (Pressure.ofCode pkt.header.pressure) s)).setEntry n (releaseEntry (s.entry n))) := hc.frame (.keep rfl rfl rfl)
  unfold matchedResponse
  refine CreditLaw.frame ?_ (flightFell_creditFrame _ _)
  split
  · exact hl.returnResponse.frame (.keep rfl rfl rfl)
  · exact forward_creditLaw pkt _ hl

theorem takeResponse_creditLaw (pkt : Packet) {s : State} (h : CreditLawBut { responses := 1 } s) :
    CreditLaw (takeResponse pkt s) := by
  unfold takeResponse
  cases responseFate s pkt with
  | stale => exact h.returnResponse.frame (.keep rfl rfl rfl)
  | late n =>
    have he : CreditLawBut { responses := 1 } (s.setEntry n (lateEntry (s.entry n))) := h.frame (.keep rfl rfl rfl)
    exact he.returnResponse.frame (.keep rfl rfl rfl)
  | mismatch n => exact h.returnResponse.frame ((State.plainNotice_creditFrame _ _).after rfl rfl rfl)
  | matched n => exact matchedResponse_creditLaw pkt n h

theorem expireEntry_creditFrame (n : EntryId) (s : State) : CreditFrame s (expireEntry n s) := by
  unfold expireEntry
  dsimp only
  split
  · exact .keep rfl rfl rfl
  · exact (pushReply_creditFrame (i := .givenUp _ _) rfl _).after rfl rfl rfl

theorem expire_creditFrame (n : EntryId) (s : State) : CreditFrame s (expire n s) := by
  have halted : CreditFrame s (timeoutHalt (s.entry n).pacer (lowerFlight (s.entry n).pacer s)) :=
    (timeoutHalt_creditFrame _ _).after rfl rfl rfl
  have noticed (x : State) (b : NoticeBody) : CreditFrame x ((x.bump .timeouts).plainNotice b) :=
    (State.plainNotice_creditFrame _ b).after rfl rfl rfl
  exact ((halted.trans (noticed _ _)).trans (expireEntry_creditFrame n _)).trans (flightFell_creditFrame _ _)

/-! ### Departures, the Sweeper and the response path -/

theorem sendRequest_creditFrame (p : PacerId) (req : Packet) (s : State) : CreditFrame s (sendRequest p req s) := by
  unfold sendRequest
  split
  · exact handT_creditFrame req s
  · split
    · exact (handT_creditFrame _ _).after rfl rfl rfl
    · exact .refl s

theorem consumeRequestCredit_creditLaw {s : State} (h : CreditLaw s) : CreditLaw (consumeRequestCredit s) :=
  { h with heldReq := (Nat.sub_le _ _).trans h.heldReq }

theorem depart_creditLaw (p : PacerId) (req : Packet) {s : State} (h : CreditLaw s) : CreditLaw (depart p req s) := by
  have hi : CreditLaw (if (s.pacer p).state = .live then idleRule p s else s) := by
    split
    · exact h.frame (idleRule_creditFrame p s)
    · exact h
  have sent := (removeHead_creditLaw p hi).frame (sendRequest_creditFrame p req _)
  have recorded (c : Pacer) (x : State) : CreditFrame x (drainCheck p (settleCalendar p (x.setPacer p c))) :=
    (flightFell_creditFrame p _).after rfl rfl rfl
  exact (consumeRequestCredit_creditLaw sent).frame (recorded _ _)

theorem endSweep_creditFrame (p : PacerId) (s : State) : CreditFrame s (endSweep p s) := by
  have noticed : CreditFrame s ((s.modPacer p (fun c => { c with state := .vacant })).plainNotice (.retireDone p)) :=
    (State.plainNotice_creditFrame _ _).after rfl rfl rfl
  exact noticed.trans ((startSweep_creditFrame _).after rfl rfl rfl)

theorem visitEntry_creditFrame (p : PacerId) (k : Tag) (s : State) : CreditFrame s (visitEntry p k s) := by
  unfold visitEntry
  dsimp only
  split
  · exact (endSweep_creditFrame p _).after rfl rfl rfl
  · exact .keep rfl rfl rfl

/-- A placed refusal leaves its slot, which is then in hand; any other item holds none (R119, R120). -/
theorem placed_creditLawBut {i : ReplyItem} {rest : List ReplyItem} (pkt : Packet) {s : State} (h : CreditLaw s)
    (oldest : s.replies = i :: rest) (room : s.bridgeCount < Config.bridgeShare) :
    CreditLawBut { slots := i.holdsRefusedSlot.toNat }
      { s with responses := s.responses ++ [{ packet := pkt, origin := .bridge }], replies := rest } := by
  have entered : CreditLaw { s with responses := s.responses ++ [{ packet := pkt, origin := .bridge }] } := by
    refine { h with target := ?_, targetShare := ?_, bridgeShare := ?_ }
    · simpa [State.targetCount, BufferedResponse.fromTarget] using h.target
    · simpa [State.targetCount, BufferedResponse.fromTarget] using h.targetShare
    · simpa [State.bridgeCount, BufferedResponse.fromTarget] using room
  refine entered.but.move i.holdsRefusedSlot.toNat ?_ rfl (fun _ => .inl) (fun _ => .inl)
  have hr : s.replies.countP ReplyItem.holdsRefusedSlot = rest.countP ReplyItem.holdsRefusedSlot +
      i.holdsRefusedSlot.toNat := by
    rw [oldest, List.countP_cons]
    cases i.holdsRefusedSlot <;> rfl
  show s.queuedSlots + rest.countP _ + _ = s.queuedSlots + s.replies.countP _ + 0
  omega

theorem releaseAborted_creditLaw (p : PacerId) {s : State} (h : CreditLaw s) : CreditLaw (releaseAborted p s) := by
  have hd : CreditLaw (drainCheck p ((removeHead p s).bump .aborted)) :=
    (removeHead_creditLaw p h).frame ((drainCheck_creditFrame p _).after rfl rfl rfl)
  unfold releaseAborted
  dsimp only
  split
  · exact processDiscard_creditLaw p hd
  · exact hd

theorem releaseMgmt_creditLaw {s : State} (h : CreditLaw s) : CreditLaw (releaseMgmt s) := by
  unfold releaseMgmt
  exact agentLook_creditLaw ((freeMgmtHead_creditLaw h).frame (.keep rfl rfl rfl))

theorem placeItem_creditLaw {i : ReplyItem} {rest : List ReplyItem} (pkt : Packet) {s : State} (h : CreditLaw s)
    (oldest : s.replies = i :: rest) (room : s.bridgeCount < Config.bridgeShare) :
    CreditLaw (placeItem i rest pkt s) := by
  have placed := placed_creditLawBut pkt h oldest room
  cases i with
  | refusal req cause p => exact placed.returnTraffic
  | aborted p => exact releaseAborted_creditLaw p placed.law
  | givenUp cause n => exact placed.law.frame (.keep rfl rfl rfl)
  | mgmt st d b => exact releaseMgmt_creditLaw placed.law

/-- A sent response of target origin leaves its entry, which is then in hand (R116, R117). -/
theorem sent_creditLawBut {r : BufferedResponse} {rest : List BufferedResponse} {s : State} (h : CreditLaw s)
    (oldest : s.responses = r :: rest) :
    CreditLawBut { responses := r.fromTarget.toNat }
      { s with creditsI := { s.creditsI with heldResp := s.creditsI.heldResp - 1 }, responses := rest } := by
  have ht : s.targetCount = rest.countP BufferedResponse.fromTarget + r.fromTarget.toNat := by
    rw [State.targetCount, oldest, List.countP_cons]
    cases r.fromTarget <;> rfl
  have hb : rest.countP (fun r => !r.fromTarget) ≤ s.bridgeCount := by
    rw [State.bridgeCount, oldest, List.countP_cons]
    exact Nat.le_add_right _ _
  exact
    { h.but with
      target := fun _ hc => ht ▸ h.target hc
      targetShare := ht ▸ h.targetShare
      bridgeShare := hb.trans h.bridgeShare
      heldResp := (Nat.sub_le _ _).trans h.heldResp }

theorem sendResponse_creditLaw {r : BufferedResponse} {rest : List BufferedResponse} {s : State} (h : CreditLaw s)
    (oldest : s.responses = r :: rest) : CreditLaw (sendResponse r rest s) := by
  have sent := (sent_creditLawBut h oldest).frame (handI_creditFrame r.packet _)
  unfold sendResponse
  dsimp only
  cases ho : r.fromTarget with
  | true =>
    rw [ho] at sent
    exact sent.returnResponse
  | false =>
    rw [ho] at sent
    exact sent.law

end Sys2Proof.Machine
end

section
/-!
PROOFS. Every step keeps the credit law: the ports, link resets and the step.
-/

namespace Sys2Proof.Machine

/-! ### The ports (R160 to R165) -/

/-- The law may leave a port's sums to an INIT. -/
theorem CreditLaw.awaitInit {s : State} (p : PortId) (h : CreditLaw s) : CreditLawBut { init := some p } s where
  __ := h.but
  traffic _ := h.traffic
  mgmt _ := h.mgmt
  target _ := h.target

/-- A port's state and lane may be set as they will while its INIT is still to be sent. -/
theorem CreditLawBut.setLink {p : PortId} {l : Link} {s : State} (h : CreditLawBut { init := some p } s)
    (lane : ∀ w ∈ l.lane, w ∈ (s.link p).lane) : CreditLawBut { init := some p } (s.setLink p l) := by
  cases p with
  | i =>
    exact
      { h with
        traffic := fun hu => absurd rfl hu
        mgmt := fun hu => absurd rfl hu
        target := h.target
        checksI := fun w hw => h.checksI w (lane w hw) }
  | t =>
    exact
      { h with
        traffic := h.traffic
        mgmt := h.mgmt
        target := fun hu => absurd rfl hu
        checksT := fun w hw => h.checksT w (lane w hw) }

/-- An INIT grants what is free, which makes the port's sums (R127, R160). -/
theorem sendInit_creditLaw {p : PortId} {s : State} (h : CreditLawBut { init := some p } s) :
    CreditLaw (sendInit p s) := by
  cases p with
  | i =>
    have granted : CreditLaw
        { s with
          creditsI :=
            { s.creditsI with
              givenTraffic := s.freeSlots, givenMgmt := Config.mgmtEntries - s.mgmtQueue.length, returnTraffic := 0,
              returnMgmt := 0 } } :=
      CreditLawBut.law
        { h with
          traffic := fun _ _ => Nat.sub_add_cancel h.slots
          mgmt := fun _ _ => Nat.sub_add_cancel h.requests
          target := fun _ => h.target (by decide) }
    exact (granted.frame (handI_creditFrame _ _)).frame (.keep rfl rfl rfl)
  | t =>
    have granted : CreditLaw
        { s with creditsT := { s.creditsT with givenResp := Config.targetShare - s.targetCount, returnResp := 0 } } :=
      CreditLawBut.law
        { h with
          traffic := fun _ => h.traffic (by decide)
          mgmt := fun _ => h.mgmt (by decide)
          target := fun _ _ => Nat.sub_add_cancel h.targetShare }
    exact (granted.frame (handT_creditFrame _ _)).frame (.keep rfl rfl rfl)

theorem enterInitWait_creditLaw {p : PortId} {s : State} (h : CreditLawBut { init := some p } s) :
    CreditLaw (enterInitWait p s) :=
  sendInit_creditLaw (h.setLink fun _ hw => hw)

/-- The counts of returns not yet sent fall, which the law does not read (R165). -/
theorem creditSendOnce_creditFrame (which : CreditReturn) (s : State) : CreditFrame s (creditSendOnce which s) := by
  unfold creditSendOnce
  cases which with
  | response =>
    dsimp only
    split
    · exact (handT_creditFrame _ _).after rfl rfl rfl
    · exact .refl s
  | _ =>
    dsimp only
    split
    · exact (handI_creditFrame _ _).after rfl rfl rfl
    · exact .refl s

theorem creditSendAll_creditFrame (which : CreditReturn) (fuel : Nat) (s : State) :
    CreditFrame s (creditSendAll which fuel s) := by
  induction fuel generalizing s with
  | zero => exact .refl s
  | succ n ih => exact (creditSendOnce_creditFrame which s).trans (ih _)

theorem sendReturns_creditFrame (p : PortId) (s : State) : CreditFrame s (sendReturns p s) := by
  cases p with
  | i => exact (creditSendAll_creditFrame .traffic _ s).trans (creditSendAll_creditFrame .mgmt _ _)
  | t => exact creditSendAll_creditFrame .response _ s

theorem sendPendingAlert_creditFrame (p : PortId) (s : State) : CreditFrame s (sendPendingAlert p s) := by
  unfold sendPendingAlert
  cases p with
  | i =>
    dsimp only
    split
    · exact (handI_creditFrame _ _).after rfl rfl rfl
    · exact .refl s
  | t => exact .refl s

theorem recordGrant_creditLaw (p : PortId) (n : Nat) {s : State} (h : CreditLaw s) : CreditLaw (recordGrant p n s) := by
  cases p with
  | i => exact { h with heldResp := le_rfl }
  | t => exact { h with heldReq := le_rfl }

/-- A port's state may change while its returns go on counting (R165). -/
theorem setLink_creditFrame {p : PortId} {l : Link} {s : State}
    (counts : l.state.countsReturns = (s.link p).state.countsReturns) (lane : l.lane = (s.link p).lane) :
    CreditFrame s (s.setLink p l) := by
  cases p with
  | i => exact .keep (by simp only [State.creditReads, State.setLink, counts]; rfl) rfl (congrArg (·, s.linkT.lane) lane)
  | t => exact .keep (by simp only [State.creditReads, State.setLink, counts]; rfl) rfl (congrArg (s.linkI.lane, ·) lane)

@[simp] theorem recordGrant_link (p : PortId) (n : Nat) (s : State) : (recordGrant p n s).link p = s.link p := by
  cases p <;> rfl

/-- The port holds the whole grant, and its returns count in UP as they did in INIT_WAIT (R162, R165). -/
theorem bringUp_creditLaw {p : PortId} (x : Header) {s : State} (h : CreditLaw s) (hl : (s.link p).state = .initWait) :
    CreditLaw (bringUp p x s) := by
  have granted := recordGrant_creditLaw p (partnerGrant p x) h
  have up := granted.frame (setLink_creditFrame (p := p)
    (l := { (recordGrant p (partnerGrant p x) s).link p with state := .up, resend := none })
    (by rw [recordGrant_link, hl]; rfl) rfl)
  exact (up.frame (sendReturns_creditFrame p _)).frame (sendPendingAlert_creditFrame p _)

/-- A CREDIT that is no fault stays within the partner's grant (R164). -/
theorem takeCredit_creditLaw {p : PortId} {x : Header} {s : State} (h : CreditLaw s)
    (sound : creditFaulty p x s = false) : CreditLaw (takeCredit p x.creditCount.toNat s) := by
  have within (hn : 0 < x.creditCount.toNat) :
      (heldAndGrant s p).1 + x.creditCount.toNat ≤ (heldAndGrant s p).2 := by
    simp only [creditFaulty, hn, decide_true, Bool.true_and, Bool.or_eq_false_iff, decide_eq_false_iff_not] at sound
    exact not_lt.mp sound.2
  have held : (heldAndGrant s p).1 ≤ (heldAndGrant s p).2 := by
    cases p with
    | i => exact h.heldResp
    | t => exact h.heldReq
  have raised : (heldAndGrant s p).1 + x.creditCount.toNat ≤ (heldAndGrant s p).2 := by
    rcases Nat.eq_zero_or_pos x.creditCount.toNat with hz | hn
    · rw [hz]
      exact held
    · exact within hn
  cases p with
  | i => exact { h with heldResp := raised }
  | t => exact { h with heldReq := raised }

/-! ### Link resets (R72, R106, R122, R157, R168 to R170) -/

theorem CreditFrame.counts {s t : State} (f : CreditFrame s t) (p : PortId) :
    (t.link p).state.countsReturns = (s.link p).state.countsReturns := by
  cases p with
  | i => exact congrArg (·.1.1) f.reads
  | t => exact congrArg (·.1.2) f.reads

theorem mem_of_mem_keptOnLane {w : WirePacket} {lane : List WirePacket} (hw : w ∈ keptOnLane lane) : w ∈ lane :=
  List.mem_of_mem_filter hw

theorem resetPortI_creditFrame (s : State) :
    CreditFrame
      { s with
        creditsI :=
          { givenTraffic := 0, givenMgmt := 0, returnTraffic := 0, returnMgmt := 0, heldResp := 0, grantResp := 0 },
        linkI := { s.linkI with lane := keptOnLane s.linkI.lane } }
      (resetPortI s) :=
  (State.plainNotice_creditFrame _ _).after rfl rfl rfl

theorem resetPortT_creditFrame (s : State) :
    CreditFrame
      { s with
        creditsT := { givenResp := 0, returnResp := 0, heldReq := 0, grantReq := 0 },
        linkT := { s.linkT with lane := keptOnLane s.linkT.lane } }
      (resetPortT s) :=
  (State.plainNotice_creditFrame _ _).after rfl rfl rfl

theorem resetPortI_creditLawBut {s : State} (h : CreditLawBut { init := some .i } s) :
    CreditLawBut { init := some .i } (resetPortI s) := by
  refine CreditLawBut.frame ?_ (resetPortI_creditFrame s)
  exact
    { h with
      traffic := fun hu => absurd rfl hu
      mgmt := fun hu => absurd rfl hu
      heldResp := le_rfl
      checksI := fun w hw => h.checksI w (mem_of_mem_keptOnLane hw) }

theorem resetPortT_creditLawBut {s : State} (h : CreditLawBut { init := some .t } s) :
    CreditLawBut { init := some .t } (resetPortT s) := by
  refine CreditLawBut.frame ?_ (resetPortT_creditFrame s)
  exact
    { h with
      target := fun hu => absurd rfl hu
      heldReq := le_rfl
      checksT := fun w hw => h.checksT w (mem_of_mem_keptOnLane hw) }

theorem dropQueues_creditLawBut {s : State} (h : CreditLawBut { init := some .i } s) :
    CreditLawBut { init := some .i } (dropQueues s) := by
  have empty : (dropQueues s).queuedSlots = 0 := by
    simp [State.queuedSlots, dropQueues, Vector.toList_replicate]
  have fewer : (dropQueues s).occupiedSlots ≤ s.occupiedSlots := by
    rw [State.occupiedSlots, empty, Nat.zero_add]
    exact Nat.le_add_left _ _
  exact { h with traffic := fun hu => absurd rfl hu, slots := (Nat.add_le_add_right fewer 0).trans h.slots }

theorem dropRequests_creditLawBut {s : State} (h : CreditLawBut { init := some .i } s) :
    CreditLawBut { init := some .i } (dropRequests s) :=
  { h with mgmt := fun hu => absurd rfl hu, requests := Nat.zero_le _ }

/-- The discarded responses of target origin return their credits; the refusals' slots go with the Reply List
(R72, R122). -/
theorem dropResponses_creditLawBut {s : State} (h : CreditLawBut { init := some .i } s) :
    CreditLawBut { init := some .i } (dropResponses s) := by
  have inHand : CreditLawBut { init := some .i, responses := s.targetCount }
      { s with responses := [], replies := [] } :=
    { h with
      traffic := fun hu => absurd rfl hu
      slots := (Nat.le_add_right _ _).trans h.slots
      target := fun hu hc => by
        show s.creditsT.givenResp + (0 + s.targetCount) = Config.targetShare
        rw [Nat.zero_add]
        exact h.target hu hc
      targetShare := by
        show 0 + s.targetCount ≤ Config.targetShare
        rw [Nat.zero_add]
        exact h.targetShare
      bridgeShare := Nat.zero_le _ }
  have he : dropResponses s =
      State.returnResponses { s with responses := [], replies := [] } s.targetCount := by
    unfold dropResponses State.returnResponses
    split <;> rfl
  rw [he]
  exact CreditLawBut.returnResponses (u := { init := some .i }) inHand

theorem resetAlert_creditFrame (s : State) : CreditFrame s (resetAlert s) := by
  unfold resetAlert
  split
  · exact .keep rfl rfl rfl
  · exact .refl s

/-- The Reply List after a T-port link reset has LINK_LOST items, which hold no slot (R106). -/
theorem clearedT_creditFrame (s : State) : CreditFrame (resetPortT s) (clearedT s) := by
  refine .keep rfl ?_ rfl
  have hr : (clearedT s).refusalPending = (resetPortT s).refusalPending := by
    show ((resetPortT s).replies ++ _).countP _ = (resetPortT s).replies.countP _
    simp [List.countP_append, List.countP_map, ReplyItem.holdsRefusedSlot, Function.comp_def]
  show (resetPortT s).queuedSlots + _ = (resetPortT s).queuedSlots + _
  rw [hr]

theorem clearedI_creditLawBut {s : State} (h : CreditLawBut { init := some .i } s) :
    CreditLawBut { init := some .i } (clearedI s) :=
  dropRequests_creditLawBut (dropResponses_creditLawBut
    ((dropQueues_creditLawBut (resetPortI_creditLawBut h)).frame (.keep rfl rfl rfl)))

/-- A link reset leaves the port's sums to the INIT that follows it (R170). -/
theorem linkReset_creditLawBut (p : PortId) {s : State} (h : CreditLawBut { init := some p } s) :
    CreditLawBut { init := some p } (linkReset p s) := by
  cases p with
  | i => exact ((clearedI_creditLawBut h).frame (completeDrains_creditFrame _)).frame (resetAlert_creditFrame _)
  | t => exact ((resetPortT_creditLawBut h).frame (clearedT_creditFrame s)).frame (completeDrains_creditFrame _)

/-- It leaves the port's state as it was, so that its returns count as they did (R170). -/
theorem linkReset_counts (p : PortId) (s : State) :
    ((linkReset p s).link p).state.countsReturns = (s.link p).state.countsReturns := by
  cases p with
  | i =>
    have cleared : (clearedI s).linkI = (resetPortI s).linkI := by
      simp [clearedI, dropRequests, dropResponses, dropQueues]
    rw [linkReset, linkResetI_eq, ((completeDrains_creditFrame _).trans (resetAlert_creditFrame _)).counts]
    show (clearedI s).linkI.state.countsReturns = s.linkI.state.countsReturns
    rw [cleared]
    exact (resetPortI_creditFrame s).counts .i
  | t =>
    rw [linkReset, linkResetT_eq, ((clearedT_creditFrame s).trans (completeDrains_creditFrame _)).counts]
    exact (resetPortT_creditFrame s).counts .t

/-- In FAULT no return counts, so that the law asks for no sum until the INIT (R165, R168). -/
theorem faultSequence_creditLaw (p : PortId) {s : State} (h : CreditLaw s) : CreditLaw (faultSequence p s) := by
  have entered := ((h.awaitInit p).setLink (l := { s.link p with state := .fault, resend := none })
    fun _ hw => hw).frame (hand_creditFrame p resetPacket _)
  refine (linkReset_creditLawBut p entered).law_of_silent ?_
  rw [linkReset_counts, (hand_creditFrame p resetPacket _).counts]
  cases p <;> rfl

theorem takeReset_creditLaw (p : PortId) {s : State} (h : CreditLaw s) : CreditLaw (takeReset p s) := by
  unfold takeReset
  split
  · exact h
  · rename_i hl
    refine (linkReset_creditLawBut p (h.awaitInit p)).law_of_silent ?_
    rw [linkReset_counts, hl]
    rfl
  · exact enterInitWait_creditLaw (linkReset_creditLawBut p ((h.awaitInit p).setLink fun _ hw => hw))
  · exact enterInitWait_creditLaw (linkReset_creditLawBut p (h.awaitInit p))

/-! ### The step -/

theorem laneSend_mem {w : WirePacket} {l : Link} (hw : w ∈ (laneSend l).lane) : w ∈ l.lane := by
  unfold laneSend at hw
  split at hw
  · exact List.mem_of_mem_drop hw
  · exact List.mem_of_mem_drop hw
  · exact hw
  · exact hw

theorem idle_creditFrame (s : State) : CreditFrame s (idle s) where
  reads := by simp only [State.creditReads, idle_linkI, idle_linkT, laneSend_state]; rfl
  slots := rfl
  laneI _ hw := .inl (laneSend_mem hw)
  laneT _ hw := .inl (laneSend_mem hw)

theorem Event.creditLaw {s t : State} (e : Event s t) (h : CreditLaw s) : CreditLaw t := by
  cases e with
  | idles => exact h.frame (idle_creditFrame s)
  | powersOn w g =>
    have initI : CreditLaw (enterInitWait .i (powerOn true w g)) :=
      enterInitWait_creditLaw ((powerOn_creditLaw true w g).awaitInit .i)
    have initT : CreditLaw (enterInitWait .t (enterInitWait .i (powerOn true w g))) :=
      enterInitWait_creditLaw (initI.awaitInit .t)
    exact initT.frame (.keep rfl rfl rfl)
  | traffic link credit => exact intake_creditLaw _ (h.spendTraffic link credit)
  | mgmt link credit => exact agentLook_creditLaw (h.joinRequest link credit)
  | response link credit => exact takeResponse_creditLaw _ (h.spendResponse link credit)
  | credit _ sound => exact takeCredit_creditLaw h sound
  | bringsUp link => exact bringUp_creditLaw _ h link
  | faults => exact faultSequence_creditLaw _ h
  | takesReset => exact takeReset_creditLaw _ h
  | resetSent => exact enterInitWait_creditLaw ((h.awaitInit _).setLink fun _ hw => List.mem_of_mem_filter hw)
  | resends => exact sendInit_creditLaw (h.awaitInit _)
  | sendsCredit which => exact h.frame (creditSendOnce_creditFrame which s)
  | departs => exact depart_creditLaw _ _ h
  | expires => exact h.frame (expire_creditFrame _ s)
  | sweepsEntry => exact h.frame (visitEntry_creditFrame _ _ s)
  | places oldest room => exact placeItem_creditLaw _ h oldest room
  | sends oldest => exact sendResponse_creditLaw h oldest
  | _ => exact h.frame (.keep rfl rfl rfl)

/-- Settles O7: every step is an event, and every event keeps the law. -/
theorem everyStepKeepsTheCreditLaw : Obligations.Every_step_keeps_the_credit_law := by
  intro s t hs hstep
  obtain ⟨rest, e⟩ := step_event hstep
  exact e.creditLaw (hs.frame (.keep rfl rfl rfl))

end Sys2Proof.Machine
end

section
/-!
PROOFS. DISCARD processing of a queue (R69) and the placement of an ABORTED item (R70).
-/

namespace Sys2Proof.Machine

/-! ### DISCARD processing (R69) -/

/-- The state after DISCARD processing has dropped the first `n` requests of pacer `p`'s queue and left these in it
(R69). -/
def droppedPosted (p : PacerId) (n : Nat) (rest : List HoldSlot) (s : State) : State :=
  { s.setPacer p { s.pacer p with qlen := (s.pacer p).qlen - n } with
    queues := tableSet s.queues p rest, creditsI := creditsAfterSlots s n,
    agent :=
      { s.agent with
        counters :=
          tableSet s.agent.counters Counter.postedDrops.index (saturatingSucc^[n] (s.counter .postedDrops)) } }

theorem creditsAfterSlots_zero (s : State) : creditsAfterSlots s 0 = s.creditsI := by
  simp [creditsAfterSlots]

theorem droppedPosted_zero (p : PacerId) (s : State) : droppedPosted p 0 (s.queue p) s = s := by
  have hpacer : s.setPacer p { s.pacer p with qlen := (s.pacer p).qlen - 0 } = s := s.setPacer_self p
  have hqueues : tableSet s.queues p (s.queue p) = s.queues := tableSet_tableGet _ _
  have hcounters : tableSet s.agent.counters Counter.postedDrops.index (s.counter .postedDrops) = s.agent.counters :=
    tableSet_tableGet _ _
  rw [droppedPosted, hpacer, hqueues, creditsAfterSlots_zero, Function.iterate_zero_apply, hcounters]

@[simp] theorem droppedPosted_queue (p : PacerId) (n : Nat) (rest : List HoldSlot) (s : State) :
    (droppedPosted p n rest s).queue p = rest := tableGet_tableSet_self _ _ _

/-- The credits that come back in one event and those that come back after them. -/
theorem creditsAfterSlots_add {s t : State} {m : Nat} (n : Nat) (link : t.linkI.state = s.linkI.state)
    (credits : t.creditsI = creditsAfterSlots s m) : creditsAfterSlots t n = creditsAfterSlots s (m + n) := by
  simp only [creditsAfterSlots, link, credits]
  split <;> simp [Nat.add_assoc]

/-- Two runs dropped one after the other are one run. -/
theorem droppedPosted_droppedPosted (p : PacerId) (m n : Nat) (next rest : List HoldSlot) (s : State) :
    droppedPosted p n rest (droppedPosted p m next s) = droppedPosted p (n + m) rest s := by
  obtain ⟨d, hd⟩ : ∃ d, d = droppedPosted p m next s := ⟨_, rfl⟩
  have hpacer : d.pacer p = { s.pacer p with qlen := (s.pacer p).qlen - m } := by
    rw [hd]
    exact tableGet_tableSet_self _ _ _
  have hcounter : d.counter .postedDrops = saturatingSucc^[m] (s.counter .postedDrops) := by
    rw [hd]
    exact tableGet_tableSet_self _ _ _
  have hcredits : creditsAfterSlots d n = creditsAfterSlots s (n + m) := by
    rw [Nat.add_comm, hd]
    exact creditsAfterSlots_add n rfl rfl
  rw [← hd, droppedPosted, hpacer, hcounter, hcredits, ← Function.iterate_add_apply, hd]
  simp [droppedPosted, State.setPacer, Nat.sub_sub, Nat.add_comm]

theorem dropPosted_eq_droppedPosted {p : PacerId} {x : HoldSlot} {rest : List HoldSlot} {s : State}
    (hq : s.queue p = x :: rest) : (removeHead p s).bump .postedDrops = droppedPosted p 1 rest s := by
  rw [removeHead_cons p s x rest hq]
  rfl

theorem abortHead_droppedPosted (p : PacerId) (n : Nat) (x : HoldSlot) (rest : List HoldSlot) (s : State) :
    abortHead p x rest (droppedPosted p n (x :: rest) s) =
      { droppedPosted p n ({ x with aborting := true } :: rest) s with replies := s.replies ++ [.aborted p] } := by
  simp [abortHead, pushReply, State.setQueue, droppedPosted]

/-- A run of posted writes at the head is dropped in one event, and processing goes on behind it (R69). -/
theorem discardFrom_posted (p : PacerId) {posted : List HoldSlot} (rest : List HoldSlot) {s : State}
    (hq : s.queue p = posted ++ rest) (hp : ∀ x ∈ posted, isPosted x.request = true) :
    discardFrom p (posted ++ rest) s = discardFrom p rest (droppedPosted p posted.length rest s) := by
  induction posted generalizing s with
  | nil =>
    have hr : s.queue p = rest := hq
    rw [List.length_nil, ← hr, droppedPosted_zero]
    rfl
  | cons x xs ih =>
    obtain ⟨hx, hxs⟩ := List.forall_mem_cons.mp hp
    have hcons : s.queue p = x :: (xs ++ rest) := hq
    rw [List.cons_append, discardFrom, if_pos hx, dropPosted_eq_droppedPosted hcons,
      ih (droppedPosted_queue _ _ _ _) hxs, droppedPosted_droppedPosted]
    rfl

/-- Settles O22: behind the posted writes stands the first READ or WRITE, marked already or not, or nothing. -/
theorem discardProcessingTakesTheHead : Obligations.Discard_processing_takes_the_head := by
  intro p s posted rest hq hp
  have hd : processDiscard p s = drainCheck p (discardFrom p rest (droppedPosted p posted.length rest s)) := by
    rw [processDiscard, hq, discardFrom_posted p rest hq hp]
  refine ⟨fun hr => ?_, fun h tail hr hh => ?_⟩
  · rw [hd, hr]
    rfl
  · rw [hd, hr, discardFrom, if_neg (by simp [hh])]
    split
    · rename_i ha
      have marked : { h with aborting := true } = h := by rw [← ha]
      rw [marked]
      rfl
    · rw [abortHead_droppedPosted]
      rfl

/-! ### The placement of an ABORTED item (R70) -/

/-- The ABORTED answer of the head request, status 7 (R121). -/
theorem composeReply_aborted {s : State} {p : PacerId} {x : HoldSlot} {rest : List HoldSlot}
    (hq : s.queue p = x :: rest) :
    composeReply s (.aborted p) =
      some (bridgeResponse (isRead x.request) classTraffic x.request.header.tag x.request.header.txid 7
        (BitVec.ofNat 8 p.val) 0) := by
  rw [composeReply, hq]
  rfl

/-- An item whose answer can be composed is placed while the bridge-made share has room (R119). -/
theorem execReplyPlacement_placed {s : State} {i : ReplyItem} {rest : List ReplyItem} {pkt : Packet}
    (hr : s.replies = i :: rest) (hb : s.bridgeCount < Config.bridgeShare) (hc : composeReply s i = some pkt) :
    execReplyPlacement s = .next (placeItem i rest pkt s) := by
  rw [execReplyPlacement, hr]
  dsimp only
  rw [if_pos hb, hc]

/-- Settles O45: the item's answer is the head's, and the head leaves before the drain is checked. -/
theorem abortedItemIsPlaced : Obligations.Aborted_item_is_placed := by
  intro s rest p slot tail hr hb hq a
  have placed := execReplyPlacement_placed hr hb (composeReply_aborted hq)
  refine placed.trans (congrArg Host.Outcome.next ?_)
  rw [placeItem, releaseResource, releaseAborted,
    removeHead_cons p { s with responses := _, replies := rest } slot tail hq]
  rfl

end Sys2Proof.Machine
end

section
/-!
PROOFS. Every step keeps the binding law (R89, R93).

Bindings are written by the agent, to a bindable pacer or to none, and cleared by the Sweeper; a pacer becomes VACANT at
the end of its sweep alone. Whatever else an event does is a `BindingFrame`.
-/

namespace Sys2Proof.Machine

/-! ### What the law does not read -/

/-- The bindings are the same, no pacer becomes VACANT, and no sweep comes to visit entries. -/
structure BindingFrame (s t : State) : Prop where
  tagMap : t.tagMap = s.tagMap
  default : t.defaultPacer = s.defaultPacer
  occupied : ∀ p, (s.pacer p).state ≠ .vacant → (t.pacer p).state ≠ .vacant
  visits : ∀ p k, t.sweeper.cursor = .visit p k → s.sweeper.cursor = .visit p k

theorem BindingLaw.frame {s t : State} (h : BindingLaw s) (f : BindingFrame s t) : BindingLaw t := by
  have binding (g : Tag) : t.binding g = s.binding g := by simp only [State.binding, f.tagMap]
  exact
    { bound := fun g p hb => f.occupied p (h.bound g p (binding g ▸ hb))
      default := fun p hd => f.occupied p (h.default p (f.default ▸ hd))
      sweptDefault := fun p k hc => f.default ▸ h.sweptDefault p k (f.visits p k hc)
      sweptEntries := fun p k g hc hg => binding g ▸ h.sweptEntries p k g (f.visits p k hc) hg }

/-- What the law reads, and of the pacers and the Sweeper more than that. -/
def State.bindingReads (s : State) : Vector (Option PacerId) 1024 × Option PacerId × Vector Pacer 128 × SweepCursor :=
  (s.tagMap, s.defaultPacer, s.pacers, s.sweeper.cursor)

theorem BindingFrame.keep {s t : State} (h : t.bindingReads = s.bindingReads) : BindingFrame s t := by
  simp only [State.bindingReads, Prod.mk.injEq] at h
  obtain ⟨htags, hdefault, hpacers, hcursor⟩ := h
  exact ⟨htags, hdefault, fun p hp => by rwa [State.pacer, hpacers], fun p k hc => hcursor ▸ hc⟩

theorem BindingFrame.refl (s : State) : BindingFrame s s := .keep rfl

theorem BindingFrame.trans {s t u : State} (f : BindingFrame s t) (g : BindingFrame t u) : BindingFrame s u :=
  ⟨g.tagMap.trans f.tagMap, g.default.trans f.default, fun p hp => g.occupied p (f.occupied p hp),
    fun p k hc => f.visits p k (g.visits p k hc)⟩

/-- A frame of a state of which the law reads the same. -/
theorem BindingFrame.after {s t u : State} (g : BindingFrame t u) (h : t.bindingReads = s.bindingReads) :
    BindingFrame s u :=
  (BindingFrame.keep h).trans g

/-- Pacer `p`'s context changes, not to VACANT, and whatever the law does not read. -/
theorem BindingFrame.of_setPacer {s t : State} {p : PacerId} {c : Pacer}
    (h : t.bindingReads = (s.setPacer p c).bindingReads)
    (hc : (s.pacer p).state ≠ .vacant → c.state ≠ .vacant) : BindingFrame s t := by
  refine BindingFrame.trans (t := s.setPacer p c) ⟨rfl, rfl, fun q hq => ?_, fun _ _ => id⟩ (.keep h)
  rw [State.setPacer_pacer]
  split
  · rename_i he
    exact hc (he ▸ hq)
  · exact hq

/-- Every context changes alike, none to VACANT. -/
theorem BindingFrame.map {s t : State} {f : Pacer → Pacer}
    (h : t.bindingReads = (s.tagMap, s.defaultPacer, s.pacers.map f, s.sweeper.cursor))
    (hf : ∀ c, (f c).state = c.state) : BindingFrame s t := by
  simp only [State.bindingReads, Prod.mk.injEq] at h
  obtain ⟨htags, hdefault, hpacers, hcursor⟩ := h
  refine ⟨htags, hdefault, fun p hp => ?_, fun p k hc => hcursor ▸ hc⟩
  rwa [State.pacer, hpacers, tableGet_map, hf]

/-! ### Notices, adaptation and the ports -/

theorem PortFrame.bindings {s t : State} (f : PortFrame s t) : BindingFrame s t := by
  obtain ⟨-, -, htags, hdefault, -, hpacers, -, -, -, -, -, -, hsweeper, -, -⟩ := f.fields
  exact .keep (by rw [State.bindingReads, htags, hdefault, hpacers, hsweeper]; rfl)

theorem NoticeFrame.bindings {s t : State} (f : NoticeFrame s t) : BindingFrame s t := f.port.bindings

theorem State.plainNotice_bindings (s : State) (b : NoticeBody) : BindingFrame s (s.plainNotice b) :=
  (s.plainNotice_frame b).bindings

/-- Adaptation changes no pacer's state. -/
theorem AdaptFrame.bindings {p : PacerId} {s t : State} (f : AdaptFrame p s t) : BindingFrame s t := by
  have htags := congrArg State.tagMap f.rest
  have hdefault := congrArg State.defaultPacer f.rest
  have hsweeper := congrArg State.sweeper f.rest
  refine ⟨htags, hdefault, fun q hq => ?_, fun q k hc => hsweeper ▸ hc⟩
  rcases eq_or_ne q p with rfl | hne
  · obtain ⟨_, _, _, _, _, _, hown⟩ := f.own
    rwa [hown]
  · rwa [f.others q hne]

theorem crossingCheck_bindings (p : PacerId) (s : State) : BindingFrame s (crossingCheck p s) :=
  (AdaptFrame.refl p s).check.bindings

/-- A change of the pacer's context, and then the crossing check. -/
theorem setPacer_check_bindings {s : State} {p : PacerId} {c : Pacer}
    (hc : (s.pacer p).state ≠ .vacant → c.state ≠ .vacant) : BindingFrame s (crossingCheck p (s.setPacer p c)) :=
  (BindingFrame.of_setPacer rfl hc).trans (crossingCheck_bindings p _)

theorem withdrawCrossing_bindings (p : PacerId) (s : State) : BindingFrame s (withdrawCrossing p s) := by
  unfold withdrawCrossing
  split
  · exact .of_setPacer (p := p) rfl id
  · exact .refl s

/-! ### The calendar, drains and queues -/

theorem settleCalendar_bindings (p : PacerId) (s : State) : BindingFrame s (settleCalendar p s) := by
  unfold settleCalendar
  split <;> exact .keep rfl

/-- The Sweeper begins at the DEFAULT_PACER step, where it has visited no entry (R88). -/
theorem startSweep_bindings (s : State) : BindingFrame s (startSweep s) := by
  unfold startSweep
  split
  · exact ⟨rfl, rfl, fun _ => id, fun _ _ hc => nomatch hc⟩
  all_goals exact .refl s

theorem drainCheck_bindings (p : PacerId) (s : State) : BindingFrame s (drainCheck p s) := by
  unfold drainCheck
  split
  · have drained : BindingFrame s (s.modPacer p fun c => { c with state := .sweeping, retireMode := none }) :=
      .of_setPacer rfl fun _ hv => nomatch hv
    exact drained.trans ((startSweep_bindings _).after rfl)
  · exact .refl s

theorem drainCheckAll_bindings (l : List PacerId) (s : State) : BindingFrame s (drainCheckAll l s) := by
  induction l generalizing s with
  | nil => exact .refl s
  | cons p rest ih => exact (drainCheck_bindings p s).trans (ih _)

theorem completeDrains_bindings (s : State) : BindingFrame s (completeDrains s) :=
  (drainCheckAll_bindings _ _).after rfl

theorem flightFell_bindings (p : PacerId) (s : State) : BindingFrame s (flightFell p s) :=
  (settleCalendar_bindings p s).trans (drainCheck_bindings p _)

theorem removeHead_bindings (p : PacerId) (s : State) : BindingFrame s (removeHead p s) := by
  cases hq : s.queue p with
  | nil =>
    rw [removeHead_nil p s hq]
    exact .refl s
  | cons x rest =>
    rw [removeHead_cons p s x rest hq]
    exact .of_setPacer rfl id

theorem discardFrom_bindings (p : PacerId) (l : List HoldSlot) (s : State) : BindingFrame s (discardFrom p l s) := by
  induction l generalizing s with
  | nil => exact .refl s
  | cons x rest ih =>
    unfold discardFrom
    split
    · exact (removeHead_bindings p s).trans ((ih ((removeHead p s).bump .postedDrops)).after rfl)
    · split
      · exact .refl s
      · exact .keep rfl

theorem processDiscard_bindings (p : PacerId) (s : State) : BindingFrame s (processDiscard p s) :=
  (discardFrom_bindings p _ s).trans (drainCheck_bindings p _)

/-! ### Commands -/

theorem alertDue_bindings (s : State) : BindingFrame s s.alertDue := s.alertDue_frame.bindings

theorem rearmAlert_bindings (s : State) : BindingFrame s (rearmAlert s) := by
  unfold rearmAlert
  dsimp only
  split
  · exact (alertDue_bindings _).after rfl
  · exact .keep rfl

theorem writeEnables_bindings (v : BitVec 8) (s : State) : BindingFrame s (writeEnables v s) := by
  unfold writeEnables
  dsimp only
  split
  · exact .keep rfl
  · split
    · exact (alertDue_bindings _).after rfl
    · exact .keep rfl

theorem popNotice_bindings (s : State) : BindingFrame s (popNotice s) := by
  unfold popNotice
  split
  · exact .keep rfl
  · dsimp only
    split
    · exact .of_setPacer rfl id
    · exact .keep rfl

/-- No command takes a pacer to VACANT, or writes a binding (R6). -/
theorem CommandEffect.bindings {s t : State} (e : CommandEffect s t) : BindingFrame s t := by
  have retires (p : PacerId) (m : RetireMode) (x : State) : BindingFrame x (x.modPacer p (drainingPacer m)) :=
    .of_setPacer rfl fun _ hv => nomatch hv
  cases e with
  | none => exact .refl s
  | rearms => exact rearmAlert_bindings s
  | stages => exact .of_setPacer rfl fun _ hv => nomatch hv
  | @starts p =>
    refine BindingFrame.trans (setPacer_check_bindings ?_) (settleCalendar_bindings p _)
    exact fun _ hv => nomatch hv
  | pauses => exact .of_setPacer rfl fun _ hv => nomatch hv
  | @resumes p =>
    refine BindingFrame.trans (.of_setPacer rfl ?_) (settleCalendar_bindings p _)
    exact fun _ hv => nomatch hv
  | @flushes p =>
    exact (((withdrawCrossing_bindings p s).trans (retires p .flush _)).trans (settleCalendar_bindings p _)).trans
      (drainCheck_bindings p _)
  | @discards p =>
    exact ((withdrawCrossing_bindings p s).trans (retires p .discard _)).trans
      ((processDiscard_bindings p _).after rfl)
  | @turns p => exact (retires p .discard s).trans ((processDiscard_bindings p _).after rfl)
  | spaces => exact .of_setPacer rfl id
  | respaces => exact setPacer_check_bindings id

/-! ### Management requests -/

/-- The pacer whose entries are visited is SWEEPING, so that no binding to it is written (R78, R88). -/
theorem TableLaw.not_bindable_of_visited {s : State} (h : TableLaw s) {p : PacerId} {k : Tag}
    (hc : s.sweeper.cursor = .visit p k) : bindable (s.pacer p) ≠ true := by
  have hs : (s.pacer p).state = .sweeping := ((h.pacers p).sweeping).mpr (by simp [sweepList, hc])
  simp [bindable, hs]

theorem BindingLaw.setDefault {s : State} {b : Option PacerId} (h : BindingLaw s) (ht : TableLaw s)
    (named : ∀ p, b = some p → bindable (s.pacer p) = true) : BindingLaw { s with defaultPacer := b } where
  bound := h.bound
  default p hb := ne_vacant_of_bindable (named p hb)
  sweptDefault p _ hc hb := ht.not_bindable_of_visited hc (named p hb)
  sweptEntries := h.sweptEntries

theorem BindingLaw.bind {s : State} {b : Option PacerId} (g : Tag) (h : BindingLaw s) (ht : TableLaw s)
    (named : ∀ p, b = some p → bindable (s.pacer p) = true) : BindingLaw (s.setBinding g b) where
  bound u p hb := by
    rw [State.setBinding_binding] at hb
    split at hb
    · exact ne_vacant_of_bindable (named p hb)
    · exact h.bound u p hb
  default := h.default
  sweptDefault := h.sweptDefault
  sweptEntries p k u hc hu hb := by
    rw [State.setBinding_binding] at hb
    split at hb
    · exact ht.not_bindable_of_visited hc (named p hb)
    · exact h.sweptEntries p k u hc hu hb

theorem RequestEffect.bindingLaw {s t : State} (e : RequestEffect s t) (ht : TableLaw s) (h : BindingLaw s) :
    BindingLaw t := by
  cases e with
  | denies => exact h.frame ((State.plainNotice_bindings _ _).after rfl)
  | pops => exact h.frame (popNotice_bindings s)
  | setsEnables x => exact h.frame (writeEnables_bindings x s)
  | setsDefault named => exact h.setDefault ht named
  | binds g named => exact h.bind g ht named
  | configures => exact h.frame (.of_setPacer rfl id)
  | rewrites => exact h.frame (.of_setPacer rfl id)
  | rewritesAndChecks => exact h.frame (setPacer_check_bindings id)
  | commands last he => exact h.frame (he.bindings.trans (.keep rfl))
  | _ => exact h.frame (.keep rfl)

theorem freeMgmtHead_bindings (s : State) : BindingFrame s (freeMgmtHead s) := by
  unfold freeMgmtHead
  split
  · exact .refl s
  · rw [State.returnMgmt_eq]
    exact .keep rfl

/-- The agent takes its requests one after another, each from a state that has the table law too (R143, R144). -/
theorem agentLook_bindingLaw {s : State} (ht : TableLaw s) (h : BindingLaw s) : BindingLaw (agentLook s) := by
  have hl : TableLaw (agentLook s) ∧ BindingLaw (agentLook s) := by
    refine agentLook_induction (P := fun x => TableLaw x ∧ BindingLaw x) (fun x hx => ?_) (fun pkt x hx => ?_) ⟨ht, h⟩
    · obtain ⟨table, binding⟩ := hx
      exact ⟨table.frame ((freeMgmtHead_table x).trans (bump_frame _ _)),
        binding.frame ((freeMgmtHead_bindings x).trans (.keep rfl))⟩
    · obtain ⟨table, binding⟩ := hx
      exact ⟨takeRequest_tableLaw pkt x table,
        ((judgeRequest_effect pkt x).bindingLaw table binding).frame (.keep rfl)⟩
  exact hl.2

/-! ### Requests and responses -/

theorem enqueue_bindings (p : PacerId) (pkt : Packet) (s : State) : BindingFrame s (enqueue p pkt s) := by
  have joins : BindingFrame s (joinQueue p pkt s) := .of_setPacer rfl id
  unfold enqueue
  dsimp only
  split
  · exact joins.trans (.of_setPacer rfl id)
  · exact joins

theorem countRefusal_bindings (p : Option PacerId) (s : State) : BindingFrame s (countRefusal p s) := by
  cases p with
  | none => exact .refl s
  | some p => exact .of_setPacer rfl id

theorem refuseArrival_bindings (pkt : Packet) (cause : RefusalCause) (p : Option PacerId) (s : State) :
    BindingFrame s (refuseArrival pkt cause p s) := by
  have counted : BindingFrame s (countRefusal p (s.bump cause.counter)) := (countRefusal_bindings p _).after rfl
  unfold refuseArrival
  dsimp only
  split
  · rw [State.returnTraffic_eq]
    exact counted.trans (.keep rfl)
  · exact counted.trans (.keep rfl)

theorem intake_bindings (pkt : Packet) (s : State) : BindingFrame s (intake pkt s) := by
  unfold intake
  cases judgeArrival s pkt.header with
  | admitted p => exact enqueue_bindings p pkt s
  | refused cause p => exact refuseArrival_bindings pkt cause p s

theorem lowerFlight_bindings (p : PacerId) (s : State) : BindingFrame s (lowerFlight p s) := .of_setPacer rfl id

theorem returnResponses_bindings (s : State) (n : Nat) : BindingFrame s (s.returnResponses n) := by
  rw [State.returnResponses_eq]
  exact .keep rfl

theorem matchedResponse_bindings (pkt : Packet) (n : EntryId) (s : State) :
    BindingFrame s (matchedResponse pkt n s) := by
  have lowered : BindingFrame s ((lowerFlight (s.entry n).pacer (countedResponse (s.entry n).pacer
      (Pressure.ofCode pkt.header.pressure) s)).setEntry n (releaseEntry (s.entry n))) :=
    ((countedResponse_frame _ _ s).bindings.trans (lowerFlight_bindings _ _)).trans (.keep rfl)
  unfold matchedResponse
  refine BindingFrame.trans ?_ (flightFell_bindings _ _)
  split
  · exact (lowered.trans (returnResponses_bindings _ 1)).trans (.keep rfl)
  · exact lowered.trans (.keep rfl)

theorem takeResponse_bindings (pkt : Packet) (s : State) : BindingFrame s (takeResponse pkt s) := by
  unfold takeResponse
  cases responseFate s pkt with
  | stale => exact (returnResponses_bindings s 1).trans (.keep rfl)
  | late n =>
    have freed : BindingFrame s (s.setEntry n (lateEntry (s.entry n))) := .keep rfl
    exact (freed.trans (returnResponses_bindings _ 1)).trans (.keep rfl)
  | mismatch n => exact (returnResponses_bindings s 1).trans ((State.plainNotice_bindings _ _).after rfl)
  | matched n => exact matchedResponse_bindings pkt n s

theorem expireEntry_bindings (n : EntryId) (s : State) : BindingFrame s (expireEntry n s) := by
  unfold expireEntry
  dsimp only
  split <;> exact .keep rfl

theorem expire_bindings (n : EntryId) (s : State) : BindingFrame s (expire n s) := by
  have halted : BindingFrame s (timeoutHalt (s.entry n).pacer (lowerFlight (s.entry n).pacer s)) :=
    (lowerFlight_bindings _ s).trans (timeoutHalt_frame _ _).bindings
  have noticed (x : State) (b : NoticeBody) : BindingFrame x ((x.bump .timeouts).plainNotice b) :=
    (State.plainNotice_bindings _ b).after rfl
  exact ((halted.trans (noticed _ _)).trans (expireEntry_bindings n _)).trans (flightFell_bindings _ _)

theorem sendRequest_bindings (p : PacerId) (req : Packet) (s : State) : BindingFrame s (sendRequest p req s) := by
  unfold sendRequest
  split
  · exact .keep rfl
  · split
    · exact .of_setPacer rfl id
    · exact .refl s

theorem depart_bindings (p : PacerId) (req : Packet) (s : State) : BindingFrame s (depart p req s) := by
  have sent (x : State) : BindingFrame x (sentHead p req x) :=
    ((removeHead_bindings p x).trans (sendRequest_bindings p req _)).trans (.of_setPacer rfl id)
  rw [depart_eq]
  exact (((afterIdleRule_frame p s).bindings.trans (sent _)).trans (settleCalendar_bindings p _)).trans
    (drainCheck_bindings p _)

theorem releaseAborted_bindings (p : PacerId) (s : State) : BindingFrame s (releaseAborted p s) := by
  have checked : BindingFrame s (drainCheck p ((removeHead p s).bump .aborted)) :=
    (removeHead_bindings p s).trans ((drainCheck_bindings p _).after rfl)
  unfold releaseAborted
  dsimp only
  split
  · exact checked.trans (processDiscard_bindings p _)
  · exact checked

theorem releaseMgmt_bindingLaw {s : State} (ht : TableLaw s) (h : BindingLaw s) : BindingLaw (releaseMgmt s) := by
  have table : TableLaw { freeMgmtHead s with agent := { (freeMgmtHead s).agent with state := .ready } } :=
    (ht.frame (freeMgmtHead_table s)).frame (.of_eq rfl rfl rfl rfl rfl rfl)
  exact agentLook_bindingLaw table (h.frame ((freeMgmtHead_bindings s).trans (.keep rfl)))

theorem placeItem_bindingLaw {s : State} {i : ReplyItem} {rest : List ReplyItem} (pkt : Packet) (ht : TableLaw s)
    (h : BindingLaw s) (hr : s.replies = i :: rest) : BindingLaw (placeItem i rest pkt s) := by
  have taken : BindingLaw (itemTaken pkt rest s) := h.frame (.keep rfl)
  rw [placeItem_eq]
  unfold releaseResource
  cases i with
  | refusal req cause p =>
    dsimp only
    rw [State.returnTraffic_eq]
    exact taken.frame (.keep rfl)
  | aborted p => exact taken.frame (releaseAborted_bindings p _)
  | givenUp cause n => exact taken.frame (.keep rfl)
  | mgmt st d b => exact releaseMgmt_bindingLaw (ht.frame (itemTaken_table pkt hr fun _ hn => nomatch hn)) taken

theorem sendResponse_bindings (r : BufferedResponse) (rest : List BufferedResponse) (s : State) :
    BindingFrame s (sendResponse r rest s) := by
  unfold sendResponse
  dsimp only
  split
  · exact (returnResponses_bindings _ 1).after rfl
  · exact .keep rfl

/-! ### Link resets -/

theorem dropResponses_bindings (s : State) : BindingFrame s (dropResponses s) :=
  (returnResponses_bindings s _).trans (.keep rfl)

theorem linkResetI_bindings (s : State) : BindingFrame s (linkResetI s) := by
  have port : BindingFrame s (resetPortI s) := (State.plainNotice_bindings _ _).after rfl
  have queues : BindingFrame (resetPortI s) (dropQueues (resetPortI s)) := .map rfl fun _ => rfl
  have stores (x : State) (o : Vector Entry 128) :
      BindingFrame x (dropRequests (dropResponses { x with outstanding := o })) := by
    have entries : BindingFrame x { x with outstanding := o } := .keep rfl
    exact (entries.trans (dropResponses_bindings _)).trans (.keep rfl)
  have cleared : BindingFrame s (clearedI s) := (port.trans queues).trans (stores _ _)
  rw [linkResetI_eq]
  exact (cleared.trans (completeDrains_bindings _)).trans (resetAlert_frame _).bindings

theorem linkResetT_bindings (s : State) : BindingFrame s (linkResetT s) := by
  have port : BindingFrame s (resetPortT s) := (State.plainNotice_bindings _ _).after rfl
  have cleared : BindingFrame (resetPortT s) (clearedT s) :=
    .map (f := fun c => { c with flight := 0 }) rfl fun _ => rfl
  rw [linkResetT_eq]
  exact (port.trans cleared).trans (completeDrains_bindings _)

theorem linkReset_bindings (p : PortId) (s : State) : BindingFrame s (linkReset p s) := by
  cases p with
  | i => exact linkResetI_bindings s
  | t => exact linkResetT_bindings s

/-! ### The Sweeper (R89, R90) -/

/-- A binding that a step of the sweep of `p` leaves is the old one, and does not name `p` (R89). -/
theorem swept_eq_some_iff (b : Option PacerId) (p q : PacerId) :
    (if b = some p then none else b) = some q ↔ b = some q ∧ q ≠ p := by
  split
  · rename_i hb
    simp [hb, eq_comm]
  · rename_i hb
    exact ⟨fun hq => ⟨hq, fun e => hb (e ▸ hq)⟩, And.left⟩

theorem defaultPacerStep_bindingLaw {s : State} (p : PacerId) (h : BindingLaw s) :
    BindingLaw (defaultPacerStep p s) where
  bound := h.bound
  default q hd := h.default q ((swept_eq_some_iff _ p q).mp hd).1
  sweptDefault q k hc hd := by
    cases hc
    exact ((swept_eq_some_iff _ p p).mp hd).2 rfl
  sweptEntries q k g hc hg := by
    cases hc
    exact absurd hg (Nat.not_lt_zero _)

/-- A pacer that nothing names may become VACANT. -/
theorem BindingLaw.vacate {s : State} {p : PacerId} (h : BindingLaw s) (hd : s.defaultPacer ≠ some p)
    (hb : ∀ g, s.binding g ≠ some p) : BindingLaw (s.setPacer p { s.pacer p with state := .vacant }) where
  bound g q hq := by
    rw [State.setPacer_pacer_ne s (ne_of_apply_ne some fun e => hb g (hq.trans e))]
    exact h.bound g q hq
  default q hq := by
    rw [State.setPacer_pacer_ne s (ne_of_apply_ne some fun e => hd (hq.trans e))]
    exact h.default q hq
  sweptDefault := h.sweptDefault
  sweptEntries := h.sweptEntries

theorem endSweep_bindingLaw {s : State} {p : PacerId} (h : BindingLaw s) (hd : s.defaultPacer ≠ some p)
    (hb : ∀ g, s.binding g ≠ some p) : BindingLaw (endSweep p s) := by
  have noticed := (h.vacate hd hb).frame (State.plainNotice_bindings _ (.retireDone p))
  have idle (x : State) : BindingFrame x (x.setCursor .idle) := ⟨rfl, rfl, fun _ => id, fun _ _ hc => nomatch hc⟩
  exact (noticed.frame (idle _)).frame (startSweep_bindings _)

/-- The visit of entry `k` in the sweep of `p` leaves no binding to `p` up to there (R89). -/
theorem BindingLaw.visit {s : State} {p : PacerId} {k : Tag} (h : BindingLaw s) (hc : s.sweeper.cursor = .visit p k) :
    let t := s.setBinding k (if s.binding k = some p then none else s.binding k)
    BindingLaw t ∧ ∀ g : Tag, g.toNat ≤ k.toNat → t.binding g ≠ some p := by
  intro t
  have old (g : Tag) (q : PacerId) (hq : t.binding g = some q) : s.binding g = some q ∧ (g = k → q ≠ p) := by
    rw [State.setBinding_binding] at hq
    split at hq
    · rename_i hg
      obtain ⟨hb, hne⟩ := (swept_eq_some_iff _ p q).mp hq
      exact ⟨hg ▸ hb, fun _ => hne⟩
    · rename_i hg
      exact ⟨hq, fun e => absurd e hg⟩
  refine ⟨⟨fun g q hq => h.bound g q (old g q hq).1, h.default, h.sweptDefault,
    fun q j g hj hg hq => h.sweptEntries q j g hj hg (old g q hq).1⟩, fun g hg hq => ?_⟩
  obtain ⟨hb, hne⟩ := old g p hq
  have hlt : g.toNat < k.toNat := lt_of_le_of_ne hg fun e => hne (BitVec.eq_of_toNat_eq e) rfl
  exact h.sweptEntries p k g hc hlt hb

theorem visitEntry_bindingLaw {s : State} {p : PacerId} {k : Tag} (h : BindingLaw s)
    (hc : s.sweeper.cursor = .visit p k) : BindingLaw (visitEntry p k s) := by
  obtain ⟨visited, cleared⟩ := h.visit hc
  have default : s.defaultPacer ≠ some p := h.sweptDefault p k hc
  unfold visitEntry
  dsimp only
  split
  · rename_i hk
    refine endSweep_bindingLaw visited default fun g => cleared g ?_
    have hg := g.isLt
    rw [hk]
    show g.toNat ≤ 1023
    omega
  · rename_i hk
    refine ⟨visited.bound, visited.default, fun q j hj => ?_, fun q j g hj hg => ?_⟩
    · cases hj
      exact default
    · cases hj
      exact cleared g (by bv_omega)

/-! ### The step -/

theorem Event.bindingLaw {s t : State} (e : Event s t) (ht : TableLaw s) (h : BindingLaw s) : BindingLaw t := by
  have port (s t : State) (f : PortFrame s t) (hs : BindingLaw s) : BindingLaw t := hs.frame f.bindings
  have reset (p : PortId) (s : State) (hs : BindingLaw s) : BindingLaw (linkReset p s) :=
    hs.frame (linkReset_bindings p s)
  cases e with
  | powersOn w g =>
    exact (((powerOn_bindingLaw true w g).frame (enterInitWait_frame .i _).bindings).frame
      (enterInitWait_frame .t _).bindings).frame (.keep rfl)
  | traffic => exact h.frame ((intake_bindings _ _).after rfl)
  | mgmt => exact agentLook_bindingLaw (ht.frame (.of_eq rfl rfl rfl rfl rfl rfl)) (h.frame (.keep rfl))
  | response => exact h.frame ((takeResponse_bindings _ _).after rfl)
  | credit => exact h.frame (takeCredit_frame _ _ s).bindings
  | bringsUp => exact h.frame (bringUp_frame _ _ s).bindings
  | faults => exact faultSequence_induction port reset _ h
  | takesReset => exact takeReset_induction port reset _ h
  | resetSent => exact h.frame ((setLink_frame s _ _).trans (enterInitWait_frame _ _)).bindings
  | resends => exact h.frame (sendInit_frame _ s).bindings
  | sendsCredit which => exact h.frame (creditSendOnce_frame which s).bindings
  | departs => exact h.frame (depart_bindings _ _ s)
  | expires => exact h.frame (expire_bindings _ s)
  | sweepsDefault => exact defaultPacerStep_bindingLaw _ h
  | sweepsEntry cursor => exact visitEntry_bindingLaw h cursor
  | places oldest => exact placeItem_bindingLaw _ ht h oldest
  | sends => exact h.frame (sendResponse_bindings _ _ s)
  | _ => exact h.frame (.keep rfl)

/-- Settles O5: every step is an event, and every event keeps the law; the table law says that the pacer whose entries
are visited is SWEEPING, and so that no write binds anything to it. -/
theorem everyStepKeepsTheBindingLaw : Obligations.Every_step_keeps_the_binding_law := by
  intro s t ht hs hstep
  obtain ⟨rest, e⟩ := step_event hstep
  exact e.bindingLaw (ht.frame (.of_eq rfl rfl rfl rfl rfl rfl)) (hs.frame (.keep rfl))

end Sys2Proof.Machine
end

section
/-!
PROOFS. The admission of a traffic request (R63, R66, R83 to R87) and the steps and the end of a sweep (R88 to R90).
-/

namespace Sys2Proof.Machine

/-! ### The admission checks (R77, R83, R84) -/

theorem addressFits_iff (h : Header) : addressFits h = true ↔ RangeFits h := by
  simp [addressFits, RangeFits, Nat.dvd_iff_mod_eq_zero, Nat.mul_comm]

/-- A request has a byte, so that its range meets the window exactly when neither ends before the other begins (R84). -/
theorem touchesWindow_iff (wbase : BitVec 4) (h : Header) :
    touchesWindow wbase h = true ↔ RangeMeetsWindow wbase h := by
  have beats : 0 < h.beats := Nat.succ_pos _
  have bytes : 0 < windowBytes := by decide
  simp only [touchesWindow, Bool.and_eq_true, decide_eq_true_eq, RangeMeetsWindow]
  constructor
  · rintro ⟨below, above⟩
    exact ⟨max h.address.toNat (windowBase wbase), by omega⟩
  · rintro ⟨a, lo, hi, wlo, whi⟩
    omega

theorem lookup_eq_some_iff {s : State} {g : Tag} {p : PacerId} : lookup s g = some p ↔ Names s g p := by
  unfold lookup Names
  cases hb : s.binding g <;> simp

theorem lookup_eq_none_iff {s : State} {g : Tag} :
    lookup s g = none ↔ s.binding g = none ∧ s.defaultPacer = none := by
  unfold lookup
  cases hb : s.binding g <;> simp

section Judged

variable {s : State} {h : Header}

theorem judgeArrival_malformed (fits : ¬RangeFits h) : judgeArrival s h = .refused .malformed none := by
  have unfit : addressFits h = false := Bool.eq_false_iff.mpr (mt (addressFits_iff h).mp fits)
  rw [judgeArrival, unfit]
  rfl

theorem judgeArrival_window (fits : RangeFits h) (meets : RangeMeetsWindow s.pins.wbase h) :
    judgeArrival s h = .refused .window none := by
  rw [judgeArrival, (addressFits_iff h).mpr fits, (touchesWindow_iff _ h).mpr meets]
  rfl

theorem judgeArrival_unmapped (fits : RangeFits h) (clear : ¬RangeMeetsWindow s.pins.wbase h)
    (unbound : s.binding h.tag = none ∧ s.defaultPacer = none) : judgeArrival s h = .refused .unmapped none := by
  have outside : touchesWindow s.pins.wbase h = false := Bool.eq_false_iff.mpr (mt (touchesWindow_iff _ h).mp clear)
  rw [judgeArrival, (addressFits_iff h).mpr fits, outside, lookup_eq_none_iff.mpr unbound]
  rfl

/-- A request that passes the checks of its range is judged by the pacer named for its tag (R77, R83). -/
theorem judgeArrival_named {p : PacerId} (fits : RangeFits h) (clear : ¬RangeMeetsWindow s.pins.wbase h)
    (named : Names s h.tag p) :
    judgeArrival s h =
      if !bindable (s.pacer p) then .refused .retiring (some p)
      else if (s.pacer p).qlen < (s.pacer p).cfg.queueLimit.toNat then .admitted p
      else .refused .retry (some p) := by
  have outside : touchesWindow s.pins.wbase h = false := Bool.eq_false_iff.mpr (mt (touchesWindow_iff _ h).mp clear)
  rw [judgeArrival, (addressFits_iff h).mpr fits, outside, lookup_eq_some_iff.mpr named]
  rfl

/-- The checks find the cause that the request fails by, and the pacer to be counted (R83, R85). -/
theorem judgeArrival_refuses {cause : RefusalCause} {p : Option PacerId} (hr : Refuses s h cause p) :
    judgeArrival s h = .refused cause p := by
  cases cause with
  | malformed =>
    obtain ⟨rfl, fits⟩ := hr
    exact judgeArrival_malformed fits
  | window =>
    obtain ⟨rfl, fits, meets⟩ := hr
    exact judgeArrival_window fits meets
  | unmapped =>
    obtain ⟨rfl, fits, clear, unbound⟩ := hr
    exact judgeArrival_unmapped fits clear unbound
  | retiring =>
    obtain ⟨q, rfl, fits, clear, named, state⟩ := hr
    have retired : bindable (s.pacer q) = false := by
      rcases state with state | state <;> simp [bindable, state]
    simp [judgeArrival_named fits clear named, retired]
  | retry =>
    obtain ⟨q, rfl, fits, clear, named, bound, full⟩ := hr
    simp [judgeArrival_named fits clear named, bound, not_lt.mpr full]

/-- A request that fails no check is admitted (R83). -/
theorem judgeArrival_admits {p : PacerId} (fits : RangeFits h) (clear : ¬RangeMeetsWindow s.pins.wbase h)
    (named : Names s h.tag p) (bound : bindable (s.pacer p) = true)
    (room : (s.pacer p).qlen < (s.pacer p).cfg.queueLimit.toNat) : judgeArrival s h = .admitted p := by
  simp [judgeArrival_named fits clear named, bound, room]

end Judged

/-! ### Traffic requests -/

/-- The state with the credit of an arriving traffic request spent (R63, R163). -/
def trafficSpent (s : State) : State :=
  { s with creditsI := { s.creditsI with givenTraffic := s.creditsI.givenTraffic - 1 } }

theorem exec_trafficArrival {pkt : Packet} {s : State} (link : s.linkI.state = .up)
    (credit : 0 < s.creditsI.givenTraffic) (request : pkt.isRequestOf classTraffic = true) :
    exec (.trafficArrival pkt) s = .next (intake pkt (trafficSpent s)) :=
  congrArg Host.Outcome.next (arrive_traffic link credit request)

/-- The request joins the queue's tail; where the queue was empty, a LIVE pacer below its cap joins the calendar
(R48, R49, R64, R87). -/
theorem enqueue_eq (p : PacerId) (pkt : Packet) (s : State) :
    enqueue p pkt s =
      { s with
        queues := tableSet s.queues p (s.queue p ++ [{ request := pkt, aborting := false }]),
        pacers :=
          tableSet s.pacers p
            { s.pacer p with
              qlen := (s.pacer p).qlen + 1,
              due :=
                if (s.pacer p).state = .live ∧ (s.pacer p).qlen = 0 ∧
                    (s.pacer p).flight < (s.pacer p).cfg.flightCap.toNat then
                  laterTime (s.pacer p).due s.clock.pacingTime
                else (s.pacer p).due },
        calendar :=
          if (s.pacer p).state = .live ∧ (s.pacer p).qlen = 0 ∧
              (s.pacer p).flight < (s.pacer p).cfg.flightCap.toNat then
            insertPacer p s.calendar
          else s.calendar } := by
  unfold enqueue
  dsimp only
  split
  · simp [joinCalendar, joinQueue, State.setPacer, State.setQueue, State.pacer]
  · simp [joinQueue, State.setPacer, State.setQueue, State.pacer]

/-- Settles O27: the request passes the checks and joins the queue of the pacer they name. -/
theorem trafficRequestIsAdmitted : Obligations.Traffic_request_is_admitted := by
  intro pkt s p link credit request fits clear named bound room
  have admitted : judgeArrival (trafficSpent s) pkt.header = .admitted p :=
    judgeArrival_admits fits clear named bound room
  rw [exec_trafficArrival link credit request, intake, admitted]
  exact congrArg Host.Outcome.next (enqueue_eq p pkt (trafficSpent s))

theorem withRefusalCounted_linkI (s : State) (p : Option PacerId) : (withRefusalCounted s p).linkI = s.linkI := by
  cases p <;> rfl

theorem withRefusalCounted_creditsI (s : State) (p : Option PacerId) :
    (withRefusalCounted s p).creditsI = s.creditsI := by
  cases p <;> rfl

theorem withRefusalCounted_replies (s : State) (p : Option PacerId) : (withRefusalCounted s p).replies = s.replies := by
  cases p <;> rfl

/-- A request refused under its credit is counted, and its slot is kept under its item or freed (R85, R86). -/
theorem exec_trafficArrival_refused {pkt : Packet} {s : State} {cause : RefusalCause} {p : Option PacerId}
    (link : s.linkI.state = .up) (credit : 0 < s.creditsI.givenTraffic)
    (request : pkt.isRequestOf classTraffic = true) (refused : Refuses s pkt.header cause p) :
    exec (.trafficArrival pkt) s =
      .next (if isPosted pkt then
          (trafficSpent (withRefusalCounted (s.bump cause.counter) p)).returnTraffic.bump .postedDrops
        else pushReply (.refusal pkt cause p) (trafficSpent (withRefusalCounted (s.bump cause.counter) p))) := by
  have judged : judgeArrival (trafficSpent s) pkt.header = .refused cause p := judgeArrival_refuses refused
  rw [exec_trafficArrival link credit request, intake, judged]
  cases p <;> rfl

/-- A slot that frees as it is taken leaves the credits given as they were, and one more to be returned (R67, R86). -/
theorem trafficSpent_returnTraffic {s : State} (link : s.linkI.state = .up) (credit : 0 < s.creditsI.givenTraffic) :
    (trafficSpent s).returnTraffic =
      { s with creditsI := { s.creditsI with returnTraffic := s.creditsI.returnTraffic + 1 } } := by
  have returned : s.creditsI.givenTraffic - 1 + 1 = s.creditsI.givenTraffic := Nat.sub_add_cancel credit
  simp [trafficSpent, creditsAfterSlots, link, returned]

/-- Settles O28: the checks find the cause, the refusal is counted, and the slot is kept under its item or freed. The
credit that a posted write used is the one its slot returns. -/
theorem trafficRequestIsRefused : Obligations.Traffic_request_is_refused := by
  intro pkt s cause p link credit request refused
  have creditsI := withRefusalCounted_creditsI (s.bump cause.counter) p
  rw [exec_trafficArrival_refused link credit request refused]
  refine ⟨fun posted => ?_, fun posted => ?_⟩
  · rw [posted, if_neg (by decide), pushReply, trafficSpent, withRefusalCounted_replies, creditsI]
    rfl
  · rw [posted, if_pos rfl, trafficSpent_returnTraffic, creditsI]
    · rfl
    · rw [withRefusalCounted_linkI]
      exact link
    · rw [creditsI]
      exact credit

/-! ### The Sweeper (R88 to R90) -/

/-- The Sweeper once its cursor is idle and this sweep queue waits: it takes the head (R88). -/
def nextSweep : List PacerId → Sweeper
  | [] => { queue := [], cursor := .idle }
  | q :: rest => { queue := rest, cursor := .defaultStep q }

/-- The end of a sweep leaves the cursor idle, and the Sweeper takes the head of the sweep queue (R88, R90). -/
theorem startSweep_setCursor_idle (s : State) :
    startSweep (s.setCursor .idle) = { s with sweeper := nextSweep s.sweeper.queue } := by
  unfold startSweep
  simp only [State.setCursor]
  cases s.sweeper.queue <;> rfl

/-- The pacer becomes VACANT, its notice is handed over, and the next sweep begins (R90). -/
theorem endSweep_eq (p : PacerId) (s : State) :
    endSweep p s =
      { (s.setPacer p { s.pacer p with state := .vacant }).plainNotice (.retireDone p) with
        sweeper := nextSweep s.sweeper.queue } := by
  obtain ⟨-, -, -, -, -, -, -, -, -, -, -, -, -, -, -, sweeper, -⟩ :=
    ((s.setPacer p { s.pacer p with state := .vacant }).plainNotice_frame (.retireDone p)).fields
  unfold endSweep
  rw [startSweep_setCursor_idle]
  simp only [State.modPacer_eq, sweeper, State.setPacer_sweeper]

theorem exec_sweepEntryVisit {s : State} {p : PacerId} {k : Tag} (hc : s.sweeper.cursor = .visit p k) :
    exec .sweepEntryVisit s = .next (visitEntry p k s) := by
  simp only [exec, execSweepEntryVisit, hc]

/-- Settles O43: a visit ends the sweep after entry 1023 and moves the cursor on after any other. -/
theorem sweepClearsTheBindings : Obligations.Sweep_clears_the_bindings := by
  intro p s
  refine ⟨fun hc => ?_, fun k hk hc => ?_, fun hc => ?_⟩
  · have swept : exec .sweepDefaultPacerStep s = .next (defaultPacerStep p s) := by
      simp only [exec, execSweepDefaultPacerStep, hc]
    exact swept
  · rw [exec_sweepEntryVisit hc, visitEntry]
    dsimp only
    rw [if_neg hk]
    rfl
  · rw [exec_sweepEntryVisit hc, visitEntry, if_pos rfl, endSweep_eq]
    rfl

end Sys2Proof.Machine
end

section
/-!
PROOFS. What the outstanding law says (R94, R104, R118): of an entry's fields, that they are those of its state; of the
Reply List, that the items of an entry are the one its CLOSE_CAUSE calls for. And what leaves the entries and their
items as they were.
-/

namespace Sys2Proof.Machine

/-! ### The parts of the law -/

/-- The fields of an entry are those of its state (R94). -/
structure Entry.FieldsRight (e : Entry) : Prop where
  deadline : e.state ≠ .busy → e.deadline = none
  closeCause : e.closeCause.isSome = true ↔ e.state = .closing
  quarantineEnd : e.quarantineEnd.isSome = true ↔ e.state = .quarantine
  freeOrphan : e.state = .free → e.orphan = false
  freeFlag : e.state = .free → e.quarantineOnClose = false
  lostFlag : e.closeCause = some .linkLost → e.quarantineOnClose = false

/-- The items of the Reply List that answer outstanding entry `n`, oldest first (R118). -/
def State.itemsOf (s : State) (n : EntryId) : List ReplyItem := s.replies.filter (ReplyItem.answersEntry n)

/-- The items that entry `n` calls for: one of its CLOSE_CAUSE while it has one (R104). -/
def Entry.itemsDue (e : Entry) (n : EntryId) : List ReplyItem :=
  match e.closeCause with
  | some cause => [.givenUp cause n]
  | none => []

theorem Entry.itemsDue_none {e : Entry} (h : e.closeCause = none) (n : EntryId) : e.itemsDue n = [] := by
  simp [Entry.itemsDue, h]

theorem Entry.itemsDue_some {e : Entry} {cause : CloseCause} (h : e.closeCause = some cause) (n : EntryId) :
    e.itemsDue n = [.givenUp cause n] := by
  simp [Entry.itemsDue, h]

theorem Entry.FieldsRight.closeCause_none {e : Entry} (h : e.FieldsRight) (hs : e.state ≠ .closing) :
    e.closeCause = none :=
  Option.not_isSome_iff_eq_none.mp (mt h.closeCause.mp hs)

theorem ReplyItem.answersEntry_iff {n : EntryId} {i : ReplyItem} :
    i.answersEntry n = true ↔ ∃ cause, i = .givenUp cause n := by
  cases i <;> simp [ReplyItem.answersEntry]

theorem ReplyItem.answersEntry_self (cause : CloseCause) (n : EntryId) :
    (ReplyItem.givenUp cause n).answersEntry n = true := answersEntry_iff.mpr ⟨cause, rfl⟩

theorem ReplyItem.answersEntry_of_ne (cause : CloseCause) {n m : EntryId} (h : m ≠ n) :
    (ReplyItem.givenUp cause n).answersEntry m = false := beq_false_of_ne h.symm

theorem State.mem_itemsOf {s : State} {n : EntryId} {cause : CloseCause} :
    .givenUp cause n ∈ s.itemsOf n ↔ .givenUp cause n ∈ s.replies := by
  simp [State.itemsOf, ReplyItem.answersEntry]

theorem EntryLaw.itemsOf_eq {s : State} {n : EntryId} (h : EntryLaw s n) : s.itemsOf n = (s.entry n).itemsDue n := by
  have one : (s.itemsOf n).length = if (s.entry n).state = .closing then 1 else 0 :=
    List.countP_eq_length_filter.symm.trans h.item
  by_cases hs : (s.entry n).state = .closing
  · rw [if_pos hs] at one
    obtain ⟨i, hi⟩ := List.length_eq_one_iff.mp one
    have hmem : i ∈ s.itemsOf n := by simp [hi]
    obtain ⟨cause, rfl⟩ := ReplyItem.answersEntry_iff.mp (List.of_mem_filter hmem)
    rw [hi, Entry.itemsDue_some (h.itemCause cause (State.mem_itemsOf.mp hmem))]
  · rw [if_neg hs] at one
    rw [Entry.itemsDue_none (Option.not_isSome_iff_eq_none.mp (mt h.closeCause.mp hs))]
    exact List.length_eq_zero_iff.mp one

theorem entryLaw_iff (s : State) (n : EntryId) :
    EntryLaw s n ↔ (s.entry n).FieldsRight ∧ s.itemsOf n = (s.entry n).itemsDue n where
  mp h := ⟨⟨h.deadline, h.closeCause, h.quarantineEnd, h.freeOrphan, h.freeFlag, h.lostFlag⟩, h.itemsOf_eq⟩
  mpr h := by
    obtain ⟨fields, items⟩ := h
    refine ⟨fields.deadline, fields.closeCause, fields.quarantineEnd, fields.freeOrphan, fields.freeFlag,
      fields.lostFlag, ?_, fun cause hi => ?_⟩
    · rw [List.countP_eq_length_filter, ← State.itemsOf, items]
      cases hc : (s.entry n).closeCause with
      | none => rw [Entry.itemsDue_none hc, if_neg (mt fields.closeCause.mpr (by simp [hc]))]; rfl
      | some cause => rw [Entry.itemsDue_some hc, if_pos (fields.closeCause.mp (by simp [hc]))]; rfl
    · rw [← State.mem_itemsOf, items] at hi
      cases hc : (s.entry n).closeCause with
      | none => rw [Entry.itemsDue_none hc] at hi; cases hi
      | some _ => rw [Entry.itemsDue_some hc, List.mem_singleton] at hi; cases hi; rfl

theorem OutstandingLaw.fields {s : State} (h : OutstandingLaw s) (n : EntryId) : (s.entry n).FieldsRight :=
  ((entryLaw_iff s n).mp (h n)).1

theorem OutstandingLaw.items {s : State} (h : OutstandingLaw s) (n : EntryId) : s.itemsOf n = (s.entry n).itemsDue n :=
  ((entryLaw_iff s n).mp (h n)).2

/-- An entry that is not CLOSING has no item (R118). -/
theorem OutstandingLaw.items_nil {s : State} (h : OutstandingLaw s) {n : EntryId} (hs : (s.entry n).state ≠ .closing) :
    s.itemsOf n = [] := by
  rw [h.items, Entry.itemsDue_none ((h.fields n).closeCause_none hs)]

theorem OutstandingLaw.of_parts {s : State} (fields : ∀ n, (s.entry n).FieldsRight)
    (items : ∀ n, s.itemsOf n = (s.entry n).itemsDue n) : OutstandingLaw s := fun n =>
  (entryLaw_iff s n).mpr ⟨fields n, items n⟩

/-! ### The changes of an entry (R94) -/

theorem releaseEntry_fieldsRight (e : Entry) : (releaseEntry e).FieldsRight := by
  constructor <;> simp [releaseEntry]

theorem quarantineEntry_closeCause (s : State) (e : Entry) : (quarantineEntry s e).closeCause = none := by
  unfold quarantineEntry
  split <;> rfl

theorem quarantineEntry_fieldsRight (s : State) (e : Entry) : (quarantineEntry s e).FieldsRight := by
  unfold quarantineEntry
  split
  · exact releaseEntry_fieldsRight e
  · constructor <;> simp

theorem Entry.FieldsRight.clearFlag {e : Entry} (h : e.FieldsRight) :
    { e with quarantineOnClose := false }.FieldsRight :=
  ⟨h.deadline, h.closeCause, h.quarantineEnd, h.freeOrphan, fun _ => rfl, fun _ => rfl⟩

theorem Entry.FieldsRight.orphan {e : Entry} (h : e.FieldsRight) (hs : e.state = .busy) :
    { e with orphan := true }.FieldsRight :=
  ⟨h.deadline, h.closeCause, h.quarantineEnd, fun hf => absurd (hs.symm.trans hf) (by decide), h.freeFlag, h.lostFlag⟩

/-- A BUSY entry is given up on under its item (R103, R106). -/
theorem Entry.FieldsRight.close {e : Entry} (h : e.FieldsRight) (hs : e.state = .busy) {cause : CloseCause}
    {flag : Bool} (hf : cause = .linkLost → flag = false) :
    { e with
      state := .closing, closeCause := some cause, quarantineOnClose := flag, deadline := none }.FieldsRight := by
  have hq : ¬e.quarantineEnd.isSome = true := mt h.quarantineEnd.mp (by simp [hs])
  exact ⟨fun _ => rfl, by simp, by simpa using hq, nofun, nofun, fun hc => hf (Option.some.inj hc)⟩

/-! ### What the law reads -/

/-- All that the law reads: the entries and their items. -/
def State.outstandingReads (s : State) : Vector Entry 128 × (EntryId → List ReplyItem) := (s.outstanding, s.itemsOf)

theorem OutstandingLaw.congr {s t : State} (h : OutstandingLaw s) (reads : t.outstandingReads = s.outstandingReads) :
    OutstandingLaw t := by
  obtain ⟨entries, items⟩ := Prod.mk.inj reads
  refine .of_parts (fun n => ?_) (fun n => ?_)
  · rw [State.entry, entries]
    exact h.fields n
  · rw [items, State.entry, entries]
    exact h.items n

/-- Entry `n` is replaced, and its items become those it calls for. -/
theorem OutstandingLaw.replace {s t : State} {n : EntryId} {e : Entry} (h : OutstandingLaw s)
    (entries : t.outstanding = tableSet s.outstanding n e) (fields : e.FieldsRight) (own : t.itemsOf n = e.itemsDue n)
    (others : ∀ m, m ≠ n → t.itemsOf m = s.itemsOf m) : OutstandingLaw t := by
  have entry (m : EntryId) : t.entry m = if m = n then e else s.entry m := by
    rw [State.entry, entries]
    exact tableGet_tableSet _ n m e
  refine .of_parts (fun m => ?_) (fun m => ?_) <;> rw [entry]
  · split
    · exact fields
    · exact h.fields m
  · split
    · rename_i hm
      rw [hm, own]
    · rename_i hm
      rw [others m hm, h.items]

/-- Entry `n` is replaced by one that calls for the same item, if any. -/
theorem OutstandingLaw.setEntry {s : State} {n : EntryId} {e : Entry} (h : OutstandingLaw s) (fields : e.FieldsRight)
    (cause : e.closeCause = (s.entry n).closeCause) : OutstandingLaw (s.setEntry n e) := by
  refine h.replace rfl fields ?_ (fun _ _ => rfl)
  have due : e.itemsDue n = (s.entry n).itemsDue n := by simp only [Entry.itemsDue, cause]
  rw [due]
  exact h.items n

/-- An entry that was not CLOSING ends without an item (R99, R101, R103, R105). -/
theorem OutstandingLaw.endEntry {s : State} {n : EntryId} {e : Entry} (h : OutstandingLaw s)
    (hs : (s.entry n).state ≠ .closing) (fields : e.FieldsRight) (cause : e.closeCause = none) :
    OutstandingLaw (s.setEntry n e) :=
  h.setEntry fields (cause.trans ((h.fields n).closeCause_none hs).symm)

/-! ### What leaves the entries and their items as they were -/

/-- The Reply List's items of an entry, when an item joins its tail. -/
theorem itemsOf_pushReply (i : ReplyItem) (s : State) (n : EntryId) :
    (pushReply i s).itemsOf n = s.itemsOf n ++ (if i.answersEntry n then [i] else []) := by
  simp only [State.itemsOf, pushReply_replies, List.filter_append, List.filter_singleton]
  cases i.answersEntry n <;> rfl

theorem pushReply_outstandingReads {i : ReplyItem} (hi : ∀ n, i.answersEntry n = false) (s : State) :
    (pushReply i s).outstandingReads = s.outstandingReads := by
  refine congrArg (Prod.mk s.outstanding) (funext fun n => ?_)
  rw [itemsOf_pushReply, hi]
  exact List.append_nil _

theorem PortFrame.outstandingReads {s t : State} (f : PortFrame s t) : t.outstandingReads = s.outstandingReads := by
  have h := congrArg State.outstandingReads f
  exact h

theorem NoticeFrame.outstandingReads {s t : State} (f : NoticeFrame s t) : t.outstandingReads = s.outstandingReads :=
  f.port.outstandingReads

theorem AdaptFrame.outstandingReads {p : PacerId} {s t : State} (f : AdaptFrame p s t) :
    t.outstandingReads = s.outstandingReads := by
  have h := congrArg State.outstandingReads f.rest
  exact h

theorem plainNotice_outstandingReads (b : NoticeBody) (s : State) :
    (s.plainNotice b).outstandingReads = s.outstandingReads := (s.plainNotice_frame b).outstandingReads

theorem crossingCheck_outstandingReads (p : PacerId) (s : State) :
    (crossingCheck p s).outstandingReads = s.outstandingReads := (AdaptFrame.refl p s).check.outstandingReads

theorem returnResponses_outstandingReads (n : Nat) (s : State) :
    (s.returnResponses n).outstandingReads = s.outstandingReads := by
  rw [State.returnResponses_eq]
  rfl

theorem settleCalendar_outstandingReads (p : PacerId) (s : State) :
    (settleCalendar p s).outstandingReads = s.outstandingReads := by
  unfold settleCalendar
  split <;> rfl

theorem startSweep_outstandingReads (s : State) : (startSweep s).outstandingReads = s.outstandingReads := by
  have h := congrArg State.outstandingReads (startSweep_frame s)
  exact h

theorem drainCheck_outstandingReads (p : PacerId) (s : State) :
    (drainCheck p s).outstandingReads = s.outstandingReads := by
  have h := congrArg State.outstandingReads (drainCheck_frame p s)
  exact h

theorem drainCheckAll_outstandingReads (l : List PacerId) (s : State) :
    (drainCheckAll l s).outstandingReads = s.outstandingReads := by
  induction l generalizing s with
  | nil => rfl
  | cons p rest ih => exact (ih _).trans (drainCheck_outstandingReads p s)

theorem completeDrains_outstandingReads (s : State) : (completeDrains s).outstandingReads = s.outstandingReads :=
  drainCheckAll_outstandingReads _ _

theorem flightFell_outstandingReads (p : PacerId) (s : State) : (flightFell p s).outstandingReads = s.outstandingReads :=
  (drainCheck_outstandingReads p _).trans (settleCalendar_outstandingReads p s)

theorem removeHead_outstandingReads (p : PacerId) (s : State) :
    (removeHead p s).outstandingReads = s.outstandingReads := by
  cases hq : s.queue p with
  | nil => rw [removeHead_nil p s hq]
  | cons x rest => rw [removeHead_cons p s x rest hq]; rfl

theorem discardFrom_outstandingReads (p : PacerId) (l : List HoldSlot) (s : State) :
    (discardFrom p l s).outstandingReads = s.outstandingReads := by
  induction l generalizing s with
  | nil => rfl
  | cons x rest ih =>
    unfold discardFrom
    split
    · exact (ih _).trans (removeHead_outstandingReads p s)
    · split
      · rfl
      · exact pushReply_outstandingReads (i := .aborted p) (fun _ => rfl) _

theorem processDiscard_outstandingReads (p : PacerId) (s : State) :
    (processDiscard p s).outstandingReads = s.outstandingReads :=
  (drainCheck_outstandingReads p _).trans (discardFrom_outstandingReads p _ s)

end Sys2Proof.Machine
end

section
/-!
PROOFS. Every step keeps the outstanding law: commands and management requests leave the entries and their items alone; a
departure, a response, a deadline and the placement of an item change one entry; a link reset changes them all.
-/

namespace Sys2Proof.Machine

/-! ### Commands and management requests -/

theorem alertDue_outstandingReads (s : State) : s.alertDue.outstandingReads = s.outstandingReads :=
  s.alertDue_frame.outstandingReads

theorem withdrawCrossing_outstandingReads (p : PacerId) (s : State) :
    (withdrawCrossing p s).outstandingReads = s.outstandingReads := by
  unfold withdrawCrossing
  split <;> rfl

theorem rearmAlert_outstandingReads (s : State) : (rearmAlert s).outstandingReads = s.outstandingReads := by
  unfold rearmAlert
  dsimp only
  split
  · exact alertDue_outstandingReads _
  · rfl

theorem writeEnables_outstandingReads (v : BitVec 8) (s : State) :
    (writeEnables v s).outstandingReads = s.outstandingReads := by
  unfold writeEnables
  dsimp only
  split
  · rfl
  · split
    · exact alertDue_outstandingReads _
    · rfl

theorem popNotice_outstandingReads (s : State) : (popNotice s).outstandingReads = s.outstandingReads := by
  unfold popNotice
  split
  · rfl
  · dsimp only
    split <;> rfl

theorem CommandEffect.outstandingReads {s t : State} (e : CommandEffect s t) :
    t.outstandingReads = s.outstandingReads := by
  cases e with
  | rearms => exact rearmAlert_outstandingReads s
  | @starts p => exact (settleCalendar_outstandingReads p _).trans (crossingCheck_outstandingReads p _)
  | @resumes p => exact settleCalendar_outstandingReads p _
  | @flushes p => exact (flightFell_outstandingReads p _).trans (withdrawCrossing_outstandingReads p s)
  | @discards p => exact (processDiscard_outstandingReads p _).trans (withdrawCrossing_outstandingReads p s)
  | @turns p => exact processDiscard_outstandingReads p _
  | @respaces p => exact crossingCheck_outstandingReads p _
  | _ => rfl

theorem RequestEffect.outstandingReads {s t : State} (e : RequestEffect s t) :
    t.outstandingReads = s.outstandingReads := by
  cases e with
  | denies => exact plainNotice_outstandingReads _ _
  | pops => exact popNotice_outstandingReads s
  | setsEnables x => exact writeEnables_outstandingReads x s
  | @rewritesAndChecks p => exact crossingCheck_outstandingReads p _
  | commands last he => exact he.outstandingReads
  | _ => rfl

theorem takeRequest_outstandingReads (pkt : Packet) (s : State) :
    (takeRequest pkt s).outstandingReads = s.outstandingReads :=
  (pushReply_outstandingReads (i := .mgmt _ _ _) (fun _ => rfl) _).trans (judgeRequest_effect pkt s).outstandingReads

theorem freeMgmtHead_outstandingReads (s : State) : (freeMgmtHead s).outstandingReads = s.outstandingReads := by
  unfold freeMgmtHead
  split
  · rfl
  · rw [State.returnMgmt_eq]
    rfl

theorem agentLook_outstandingReads (s : State) : (agentLook s).outstandingReads = s.outstandingReads :=
  agentLook_induction (P := fun x => x.outstandingReads = s.outstandingReads)
    (fun x h => (freeMgmtHead_outstandingReads x).trans h) (fun pkt x h => (takeRequest_outstandingReads pkt x).trans h)
    rfl

/-! ### Traffic requests and departures -/

theorem countRefusal_outstandingReads (p : Option PacerId) (s : State) :
    (countRefusal p s).outstandingReads = s.outstandingReads := by
  cases p <;> rfl

theorem refuseArrival_outstandingReads (pkt : Packet) (cause : RefusalCause) (p : Option PacerId) (s : State) :
    (refuseArrival pkt cause p s).outstandingReads = s.outstandingReads := by
  unfold refuseArrival
  dsimp only
  split
  · rw [State.returnTraffic_eq]
    exact countRefusal_outstandingReads p _
  · exact (pushReply_outstandingReads (i := .refusal pkt cause p) (fun _ => rfl) _).trans
      (countRefusal_outstandingReads p _)

theorem intake_outstandingReads (pkt : Packet) (s : State) : (intake pkt s).outstandingReads = s.outstandingReads := by
  unfold intake
  cases judgeArrival s pkt.header with
  | admitted p => simp only [enqueue_eq]; rfl
  | refused cause p => exact refuseArrival_outstandingReads pkt cause p s

/-- A departing READ or WRITE makes a FREE entry BUSY (R96). -/
theorem allocate_outstandingLaw {s : State} {n : EntryId} (p : PacerId) (req : Packet) (h : OutstandingLaw s)
    (hn : (s.entry n).state = .free) : OutstandingLaw (allocate p n req s) := by
  unfold allocate
  refine OutstandingLaw.congr (h.endEntry (n := n) (by rw [hn]; decide) ?_ rfl) rfl
  constructor <;> simp

theorem sendRequest_outstandingLaw {s : State} (p : PacerId) (req : Packet) (h : OutstandingLaw s) :
    OutstandingLaw (sendRequest p req s) := by
  unfold sendRequest
  split
  · exact h.congr rfl
  · split
    · rename_i n hn
      exact (allocate_outstandingLaw p req h (lowestFree_free hn)).congr rfl
    · exact h

theorem depart_outstandingLaw {s : State} (p : PacerId) (req : Packet) (h : OutstandingLaw s) :
    OutstandingLaw (depart p req s) := by
  have ruled : OutstandingLaw (afterIdleRule p s) := h.congr (afterIdleRule_frame p s).outstandingReads
  have sent := sendRequest_outstandingLaw p req (ruled.congr (removeHead_outstandingReads p _))
  rw [depart_eq]
  exact sent.congr (flightFell_outstandingReads p _)

/-! ### Target responses, deadlines and quarantine -/

theorem matchedResponse_outstandingLaw {s : State} (pkt : Packet) {n : EntryId} (h : OutstandingLaw s)
    (hb : (s.entry n).state = .busy) : OutstandingLaw (matchedResponse pkt n s) := by
  have counted := countedResponse_frame (s.entry n).pacer (Pressure.ofCode pkt.header.pressure) s
  have ended : OutstandingLaw ((lowerFlight (s.entry n).pacer (countedResponse (s.entry n).pacer
      (Pressure.ofCode pkt.header.pressure) s)).setEntry n (releaseEntry (s.entry n))) := by
    refine OutstandingLaw.endEntry (h.congr counted.outstandingReads) ?_ (releaseEntry_fieldsRight _) rfl
    rw [lowerFlight_eq, State.setPacer_entry, counted.entry, hb]
    decide
  unfold matchedResponse
  refine OutstandingLaw.congr ?_ (flightFell_outstandingReads _ _)
  split
  · exact ended.congr (returnResponses_outstandingReads 1 _)
  · exact ended.congr rfl

/-- A LATE response frees a QUARANTINE entry, or clears the flag of a CLOSING one, whose item stays (R99). -/
theorem lateEntry_outstandingLaw {s : State} {n : EntryId} (h : OutstandingLaw s)
    (hn : (s.entry n).state = .quarantine ∨ (s.entry n).state = .closing) :
    OutstandingLaw (s.setEntry n (lateEntry (s.entry n))) := by
  rcases hn with hn | hn <;> simp only [lateEntry, hn]
  · exact h.endEntry (by rw [hn]; decide) (releaseEntry_fieldsRight _) rfl
  · refine h.setEntry ?_ rfl
    have cleared := (h.fields n).clearFlag
    rwa [hn] at cleared

theorem takeResponse_outstandingLaw {s : State} (pkt : Packet) (h : OutstandingLaw s) :
    OutstandingLaw (takeResponse pkt s) := by
  unfold takeResponse
  cases hf : responseFate s pkt with
  | stale => exact h.congr (returnResponses_outstandingReads 1 s)
  | late n => exact (lateEntry_outstandingLaw h (responseFate_late hf)).congr (returnResponses_outstandingReads 1 _)
  | mismatch n =>
    exact h.congr ((plainNotice_outstandingReads _ _).trans (returnResponses_outstandingReads 1 s))
  | matched n => exact matchedResponse_outstandingLaw pkt h (responseFate_matched hf)

/-- An expired entry is CLOSING with its TIMEOUT item, or if ORPHAN goes without one (R103). -/
theorem expireEntry_outstandingLaw {s : State} {n : EntryId} (h : OutstandingLaw s)
    (hb : (s.entry n).state = .busy) : OutstandingLaw (expireEntry n s) := by
  have waiting : (s.entry n).state ≠ .closing := by rw [hb]; decide
  unfold expireEntry
  dsimp only
  split
  · exact h.endEntry waiting (quarantineEntry_fieldsRight s _) (quarantineEntry_closeCause s _)
  · refine h.replace rfl ((h.fields n).close hb (cause := .timeout) (flag := true) (fun hc => nomatch hc)) ?_
      fun m hm => ?_
    · rw [itemsOf_pushReply, if_pos (ReplyItem.answersEntry_self _ n)]
      exact congrArg (· ++ [ReplyItem.givenUp .timeout n]) (h.items_nil waiting)
    · rw [itemsOf_pushReply, ReplyItem.answersEntry_of_ne _ hm]
      exact List.append_nil _

theorem expire_outstandingLaw {s : State} {n : EntryId} (h : OutstandingLaw s) (hb : (s.entry n).state = .busy) :
    OutstandingLaw (expire n s) := by
  have halted := timeoutHalt_frame (s.entry n).pacer (lowerFlight (s.entry n).pacer s)
  have noticed := State.plainNotice_frame
    ((timeoutHalt (s.entry n).pacer (lowerFlight (s.entry n).pacer s)).bump .timeouts)
    (.respTimeout (s.entry n).pacer (s.entry n).tag (s.entry n).upTxid)
  have before : OutstandingLaw (lowerFlight (s.entry n).pacer s) := h.congr rfl
  refine OutstandingLaw.congr (expireEntry_outstandingLaw (n := n)
    (before.congr (noticed.outstandingReads.trans halted.outstandingReads)) ?_) (flightFell_outstandingReads _ _)
  rw [noticed.entry, State.bump_entry, halted.entry]
  exact hb

/-! ### The Sweeper and the response path -/

theorem visitEntry_outstandingReads (p : PacerId) (k : Tag) (s : State) :
    (visitEntry p k s).outstandingReads = s.outstandingReads := by
  unfold visitEntry
  dsimp only
  split
  · exact (startSweep_outstandingReads _).trans (plainNotice_outstandingReads _ _)
  · rfl

/-- The Reply List's items of an entry, before and after the oldest item has left. -/
theorem itemsOf_itemTaken {s : State} {i : ReplyItem} {rest : List ReplyItem} (pkt : Packet) (hr : s.replies = i :: rest)
    (n : EntryId) : s.itemsOf n = (if i.answersEntry n then [i] else []) ++ (itemTaken pkt rest s).itemsOf n := by
  simp only [State.itemsOf, hr, itemTaken, List.filter_cons]
  cases i.answersEntry n <;> rfl

theorem itemTaken_outstandingReads {s : State} {i : ReplyItem} {rest : List ReplyItem} (pkt : Packet)
    (hr : s.replies = i :: rest) (hi : ∀ n, i.answersEntry n = false) :
    (itemTaken pkt rest s).outstandingReads = s.outstandingReads := by
  refine congrArg (Prod.mk s.outstanding) (funext fun n => ?_)
  rw [itemsOf_itemTaken pkt hr, hi]
  rfl

theorem entryAfterPlacement_ends (s : State) (e : Entry) :
    (entryAfterPlacement s e).FieldsRight ∧ (entryAfterPlacement s e).closeCause = none := by
  unfold entryAfterPlacement
  split
  · exact ⟨quarantineEntry_fieldsRight s e, quarantineEntry_closeCause s e⟩
  · exact ⟨releaseEntry_fieldsRight e, rfl⟩

/-- The one item of a CLOSING entry leaves the Reply List as the entry ends (R104, R120). -/
theorem placeGivenUp_outstandingLaw {s : State} {cause : CloseCause} {n : EntryId} {rest : List ReplyItem} (pkt : Packet)
    (h : OutstandingLaw s) (hr : s.replies = .givenUp cause n :: rest) :
    OutstandingLaw ((itemTaken pkt rest s).setEntry n (entryAfterPlacement (itemTaken pkt rest s) (s.entry n))) := by
  obtain ⟨fields, ended⟩ := entryAfterPlacement_ends (itemTaken pkt rest s) (s.entry n)
  have taken := itemsOf_itemTaken pkt hr
  refine h.replace rfl fields ?_ fun m hm => ?_
  · have hcause : (s.entry n).closeCause = some cause := (h n).itemCause cause (by simp [hr])
    have one := (h.items n).symm.trans (taken n)
    rw [Entry.itemsDue_some hcause, if_pos (ReplyItem.answersEntry_self cause n)] at one
    rw [Entry.itemsDue_none ended]
    exact (List.cons.inj one).2.symm
  · rw [taken m, ReplyItem.answersEntry_of_ne cause hm]
    rfl

theorem releaseAborted_outstandingReads (p : PacerId) (s : State) :
    (releaseAborted p s).outstandingReads = s.outstandingReads := by
  have checked : (drainCheck p ((removeHead p s).bump .aborted)).outstandingReads = s.outstandingReads :=
    (drainCheck_outstandingReads p _).trans (removeHead_outstandingReads p s)
  unfold releaseAborted
  dsimp only
  split
  · exact (processDiscard_outstandingReads p _).trans checked
  · exact checked

theorem placeItem_outstandingLaw {s : State} {i : ReplyItem} {rest : List ReplyItem} (pkt : Packet)
    (h : OutstandingLaw s) (hr : s.replies = i :: rest) : OutstandingLaw (placeItem i rest pkt s) := by
  rw [placeItem_eq]
  cases i with
  | refusal req cause p =>
    have taken := h.congr (itemTaken_outstandingReads pkt hr fun _ => rfl)
    unfold releaseResource
    rw [State.returnTraffic_eq]
    exact taken.congr rfl
  | aborted p =>
    exact (h.congr (itemTaken_outstandingReads pkt hr fun _ => rfl)).congr (releaseAborted_outstandingReads p _)
  | givenUp cause n => exact placeGivenUp_outstandingLaw pkt h hr
  | mgmt st d b =>
    have taken := h.congr (itemTaken_outstandingReads pkt hr fun _ => rfl)
    exact taken.congr ((agentLook_outstandingReads _).trans (freeMgmtHead_outstandingReads _))

theorem sendResponse_outstandingReads (r : BufferedResponse) (rest : List BufferedResponse) (s : State) :
    (sendResponse r rest s).outstandingReads = s.outstandingReads := by
  unfold sendResponse
  dsimp only
  split
  · exact returnResponses_outstandingReads 1 _
  · rfl

/-! ### Link resets (R106, R107) -/

theorem resetPortI_outstandingReads (s : State) : (resetPortI s).outstandingReads = s.outstandingReads :=
  plainNotice_outstandingReads _ _

theorem resetPortT_outstandingReads (s : State) : (resetPortT s).outstandingReads = s.outstandingReads :=
  plainNotice_outstandingReads _ _

/-- After an I-port link reset no entry is CLOSING (R107). -/
theorem entryAfterResetI_right (s : State) {e : Entry} (h : e.FieldsRight) :
    (entryAfterResetI s e).FieldsRight ∧ (entryAfterResetI s e).closeCause = none := by
  unfold entryAfterResetI
  cases hs : e.state with
  | busy =>
    have hr := h.orphan hs
    rw [hs] at hr
    exact ⟨hr, h.closeCause_none (by simp [hs])⟩
  | closing =>
    dsimp only
    split
    · exact ⟨quarantineEntry_fieldsRight s e, quarantineEntry_closeCause s e⟩
    · exact ⟨releaseEntry_fieldsRight e, rfl⟩
  | _ => exact ⟨h, h.closeCause_none (by simp [hs])⟩

theorem clearedI_outstanding (s : State) :
    (clearedI s).outstanding = (resetPortI s).outstanding.map (entryAfterResetI (dropQueues (resetPortI s))) := by
  simp [clearedI, dropRequests, dropResponses, dropQueues]

theorem clearedI_outstandingLaw {s : State} (h : OutstandingLaw s) : OutstandingLaw (clearedI s) := by
  have port : OutstandingLaw (resetPortI s) := h.congr (resetPortI_outstandingReads s)
  have entry (n : EntryId) :
      (clearedI s).entry n = entryAfterResetI (dropQueues (resetPortI s)) ((resetPortI s).entry n) := by
    rw [State.entry, clearedI_outstanding]
    exact tableGet_map _ _ n
  refine .of_parts (fun n => ?_) (fun n => ?_)
  · rw [entry]
    exact (entryAfterResetI_right _ (port.fields n)).1
  · rw [entry, Entry.itemsDue_none (entryAfterResetI_right _ (port.fields n)).2]
    rfl

theorem linkResetI_outstandingLaw {s : State} (h : OutstandingLaw s) : OutstandingLaw (linkResetI s) := by
  rw [linkResetI_eq]
  exact (clearedI_outstandingLaw h).congr
    ((resetAlert_frame _).outstandingReads.trans (completeDrains_outstandingReads _))

/-- The entry is answered LINK_LOST at a T-port link reset (R106). -/
def Entry.lost (e : Entry) : Bool := e.state == .busy && !e.orphan

theorem entryAfterResetT_fieldsRight {e : Entry} (h : e.FieldsRight) : (entryAfterResetT e).FieldsRight := by
  unfold entryAfterResetT
  cases hs : e.state with
  | busy =>
    dsimp only
    split
    · exact releaseEntry_fieldsRight e
    · exact h.close hs fun _ => rfl
  | quarantine => exact releaseEntry_fieldsRight e
  | closing =>
    have cleared := h.clearFlag
    rwa [hs] at cleared
  | free => exact h

/-- The items that an entry calls for after a T-port link reset are those it had and, where it is lost, a new one. -/
theorem entryAfterResetT_itemsDue {e : Entry} (h : e.FieldsRight) (n : EntryId) :
    (entryAfterResetT e).itemsDue n = e.itemsDue n ++ (if e.lost then [.givenUp .linkLost n] else []) := by
  cases hs : e.state with
  | busy =>
    have before : e.closeCause = none := h.closeCause_none (by simp [hs])
    cases ho : e.orphan <;> simp [entryAfterResetT, Entry.lost, Entry.itemsDue, releaseEntry, hs, ho, before]
  | quarantine =>
    have before : e.closeCause = none := h.closeCause_none (by simp [hs])
    simp [entryAfterResetT, Entry.lost, Entry.itemsDue, releaseEntry, hs, before]
  | _ => simp [entryAfterResetT, Entry.lost, Entry.itemsDue, hs]

/-- Each lost entry gets one item, in increasing number (R106). -/
theorem lostItems_filter (s : State) (n : EntryId) :
    ((lostEntries s).map (ReplyItem.givenUp .linkLost)).filter (ReplyItem.answersEntry n) =
      if (s.entry n).lost then [.givenUp .linkLost n] else [] := by
  have answers : ReplyItem.answersEntry n ∘ ReplyItem.givenUp .linkLost = (· == n) := rfl
  have once : (lostEntries s).count n = if (s.entry n).lost then 1 else 0 := by
    have nodup : (lostEntries s).Nodup := (List.nodup_finRange 128).filter _
    have mem : n ∈ lostEntries s ↔ (s.entry n).lost = true := by
      simp [lostEntries, Entry.lost]
    simp only [nodup.count, mem]
  rw [List.filter_map, answers, List.filter_beq, once]
  cases (s.entry n).lost <;> rfl

theorem clearedT_outstandingLaw {s : State} (h : OutstandingLaw s) : OutstandingLaw (clearedT s) := by
  have port : OutstandingLaw (resetPortT s) := h.congr (resetPortT_outstandingReads s)
  have entry (n : EntryId) : (clearedT s).entry n = entryAfterResetT ((resetPortT s).entry n) := tableGet_map _ _ n
  have items (n : EntryId) : (clearedT s).itemsOf n = (resetPortT s).itemsOf n ++
      (if ((resetPortT s).entry n).lost then [.givenUp .linkLost n] else []) := by
    rw [← lostItems_filter]
    exact List.filter_append _ _
  refine .of_parts (fun n => ?_) (fun n => ?_)
  · rw [entry]
    exact entryAfterResetT_fieldsRight (port.fields n)
  · rw [items, entry, entryAfterResetT_itemsDue (port.fields n), port.items]

theorem linkReset_outstandingLaw (p : PortId) {s : State} (h : OutstandingLaw s) : OutstandingLaw (linkReset p s) := by
  cases p with
  | i => exact linkResetI_outstandingLaw h
  | t =>
    rw [linkReset, linkResetT_eq]
    exact (clearedT_outstandingLaw h).congr (completeDrains_outstandingReads _)

/-! ### The step -/

theorem Event.outstandingLaw {s t : State} (e : Event s t) (h : OutstandingLaw s) : OutstandingLaw t := by
  have port (s t : State) (f : PortFrame s t) (hs : OutstandingLaw s) : OutstandingLaw t := hs.congr f.outstandingReads
  have reset (p : PortId) (s : State) (hs : OutstandingLaw s) : OutstandingLaw (linkReset p s) :=
    linkReset_outstandingLaw p hs
  cases e with
  | powersOn w g =>
    have inits := (enterInitWait_frame .i (powerOn true w g)).trans (enterInitWait_frame .t _)
    exact (powerOn_outstandingLaw true w g).congr inits.outstandingReads
  | traffic => exact h.congr (intake_outstandingReads _ _)
  | mgmt => exact h.congr (agentLook_outstandingReads _)
  | response => exact takeResponse_outstandingLaw _ (h.congr rfl)
  | credit => exact port _ _ (takeCredit_frame _ _ s) h
  | bringsUp => exact port _ _ (bringUp_frame _ _ s) h
  | faults => exact faultSequence_induction port reset _ h
  | takesReset => exact takeReset_induction port reset _ h
  | resetSent => exact port _ _ ((setLink_frame s _ _).trans (enterInitWait_frame _ _)) h
  | resends => exact port _ _ (sendInit_frame _ s) h
  | sendsCredit which => exact port _ _ (creditSendOnce_frame which s) h
  | departs => exact depart_outstandingLaw _ _ h
  | expires reached => exact expire_outstandingLaw h (deadlineReached_busy reached)
  | quarantineEnds reached =>
    exact h.endEntry (by rw [quarantineReached_state reached]; decide) (releaseEntry_fieldsRight _) rfl
  | sweepsEntry => exact h.congr (visitEntry_outstandingReads _ _ s)
  | places oldest => exact placeItem_outstandingLaw _ h oldest
  | sends => exact h.congr (sendResponse_outstandingReads _ _ s)
  | _ => exact h.congr rfl

/-- Settles O8: every step is an event, and every event keeps the law. -/
theorem everyStepKeepsTheOutstandingLaw : Obligations.Every_step_keeps_the_outstanding_law := by
  intro s t hs hstep
  obtain ⟨rest, e⟩ := step_event hstep
  exact e.outstandingLaw (hs.withPending rest)

end Sys2Proof.Machine
end

section
/-!
PROOFS. What becomes of a target response (R97 to R102) and of an entry whose time is up (R103, R105).
-/

namespace Sys2Proof.Machine

/-! ### The end of an entry -/

theorem quarantineEntry_eq_givenUpOn (s : State) (e : Entry) : quarantineEntry s e = givenUpOn s e := rfl

/-- Settles O42: the end is reached, and the entry is released. -/
theorem quarantineEndsInFree : Obligations.Quarantine_ends_in_free := by
  intro n s d hs hd reached
  have ended : quarantineReached s (s.entry n) = true := by simp [quarantineReached, hs, hd, reached]
  exact congrArg Host.Outcome.next (if_pos ended)

/-! ### The judgement of a response (R97) -/

theorem answers_iff (pkt : Packet) (k : EntryKind) :
    answers pkt k = true ↔ (k = .read ∧ pkt.kind? = some .readData) ∨ (k = .write ∧ pkt.kind? = some .writeDone) := by
  cases k <;> simp [answers]

/-- The table's test compares the beats of a READ_DATA and of no other response (R97). -/
theorem fitsEntry_iff (pkt : Packet) (e : Entry) : fitsEntry pkt e = true ↔ FitsEntry pkt e := by
  simp only [fitsEntry, FitsEntry, Bool.and_eq_true, beq_iff_eq, answers_iff, Bool.or_eq_true, bne_iff_ne, and_assoc]
  refine and_congr_right fun _ => ?_
  constructor
  · rintro ⟨⟨hk, hp⟩ | ⟨hk, hp⟩, hb⟩
    · exact .inl ⟨hk, hp, hb.resolve_left (fun hn => hn hp)⟩
    · exact .inr ⟨hk, hp⟩
  · rintro (⟨hk, hp, hb⟩ | ⟨hk, hp⟩)
    · exact ⟨.inl ⟨hk, hp⟩, .inr hb⟩
    · exact ⟨.inr ⟨hk, hp⟩, .inl (by rw [hp]; decide)⟩

section Judged

variable {s : State} {pkt : Packet} {n : EntryId}

theorem responseFate_unnamed (hn : 128 ≤ pkt.header.txid.toNat) : responseFate s pkt = .stale :=
  dif_neg (Nat.not_lt.mpr hn)

/-- The fate of a response that names entry `n`, by the state of the entry (R97). -/
theorem responseFate_named (hn : n.val = pkt.header.txid.toNat) :
    ((s.entry n).state = .free → responseFate s pkt = .stale) ∧
    ((s.entry n).state = .quarantine ∨ (s.entry n).state = .closing →
      responseFate s pkt = if pkt.header.tag = (s.entry n).tag then .late n else .stale) ∧
    ((s.entry n).state = .busy →
      responseFate s pkt = if fitsEntry pkt (s.entry n) then .matched n else .mismatch n) := by
  have named : pkt.header.txid.toNat < 128 := hn ▸ n.isLt
  obtain rfl : n = ⟨pkt.header.txid.toNat, named⟩ := Fin.ext hn
  unfold responseFate
  rw [dif_pos named]
  refine ⟨fun hs => ?_, fun hs => ?_, fun hs => ?_⟩
  · simp only [hs]
  · rcases hs with hs | hs <;> simp only [hs]
  · simp only [hs]

theorem responseFate_stale
    (h : 128 ≤ pkt.header.txid.toNat ∨
      (∃ n : EntryId, n.val = pkt.header.txid.toNat ∧
        ((s.entry n).state = .free ∨
          (((s.entry n).state = .quarantine ∨ (s.entry n).state = .closing) ∧
            pkt.header.tag ≠ (s.entry n).tag)))) : responseFate s pkt = .stale := by
  rcases h with hn | ⟨n, hn, hs | ⟨hs, ht⟩⟩
  · exact responseFate_unnamed hn
  · exact (responseFate_named hn).1 hs
  · rw [(responseFate_named hn).2.1 hs, if_neg ht]

theorem responseFate_eq_late (hn : n.val = pkt.header.txid.toNat)
    (hs : (s.entry n).state = .quarantine ∨ (s.entry n).state = .closing) (ht : pkt.header.tag = (s.entry n).tag) :
    responseFate s pkt = .late n := by
  rw [(responseFate_named hn).2.1 hs, if_pos ht]

theorem responseFate_eq_matched (hn : n.val = pkt.header.txid.toNat) (hs : (s.entry n).state = .busy)
    (hf : FitsEntry pkt (s.entry n)) : responseFate s pkt = .matched n := by
  rw [(responseFate_named hn).2.2 hs, if_pos ((fitsEntry_iff _ _).mpr hf)]

theorem responseFate_eq_mismatch (hn : n.val = pkt.header.txid.toNat) (hs : (s.entry n).state = .busy)
    (hf : ¬FitsEntry pkt (s.entry n)) : responseFate s pkt = .mismatch n := by
  rw [(responseFate_named hn).2.2 hs, if_neg (mt (fitsEntry_iff _ _).mp hf)]

end Judged

/-! ### The credit of a response (R117, R163) -/

/-- The state with the credit counts of Link port T replaced. -/
def withCreditsT (c : CreditsT) (s : State) : State := { s with creditsT := c }

/-! Notices and adaptation neither read nor write these counts. -/

section Commutes

variable {c : CreditsT} {s t : State}

theorem ite_withCreditsT {q : Prop} [Decidable q] {a b a' b' : State} (ha : a' = withCreditsT c a)
    (hb : b' = withCreditsT c b) : (if q then a' else b') = withCreditsT c (if q then a else b) := by
  rw [ha, hb, apply_ite (withCreditsT c)]

theorem alertDue_withCreditsT (h : t = withCreditsT c s) : t.alertDue = withCreditsT c s.alertDue := by
  subst h
  unfold State.alertDue
  exact ite_withCreditsT rfl rfl

theorem enterNotice_withCreditsT (b : NoticeBody) (h : t = withCreditsT c s) :
    t.enterNotice b = withCreditsT c (s.enterNotice b) := by
  subst h
  unfold State.enterNotice
  exact ite_withCreditsT (alertDue_withCreditsT rfl) rfl

theorem plainNotice_withCreditsT (b : NoticeBody) (h : t = withCreditsT c s) :
    t.plainNotice b = withCreditsT c (s.plainNotice b) := by
  subst h
  unfold State.plainNotice
  exact ite_withCreditsT (ite_withCreditsT (enterNotice_withCreditsT b rfl) rfl) rfl

theorem crossing_withCreditsT (p : PacerId) (b : NoticeBody) (h : t = withCreditsT c s) :
    crossing p b t = withCreditsT c (crossing p b s) := by
  subst h
  unfold crossing
  refine ite_withCreditsT (ite_withCreditsT rfl (ite_withCreditsT ?_ rfl)) rfl
  rw [enterNotice_withCreditsT b rfl]
  rfl

theorem crossingCheck_withCreditsT (p : PacerId) (h : t = withCreditsT c s) :
    crossingCheck p t = withCreditsT c (crossingCheck p s) := by
  subst h
  have pacer : (withCreditsT c s).pacer p = s.pacer p := rfl
  unfold crossingCheck
  rw [pacer]
  cases crossingResult (s.pacer p) with
  | goesSlow => exact crossing_withCreditsT p _ rfl
  | recovers => exact crossing_withCreditsT p _ rfl
  | stays => rfl

theorem windowResponse_withCreditsT (p : PacerId) (marked : Bool) (h : t = withCreditsT c s) :
    windowResponse p marked t = withCreditsT c (windowResponse p marked s) := by
  subst h
  unfold windowResponse
  exact ite_withCreditsT (crossingCheck_withCreditsT p rfl) rfl

theorem countedResponse_withCreditsT (p : PacerId) (m : Pressure) (h : t = withCreditsT c s) :
    countedResponse p m t = withCreditsT c (countedResponse p m s) := by
  subst h
  unfold countedResponse
  refine ite_withCreditsT ?_ rfl
  cases m with
  | clear => exact windowResponse_withCreditsT p false rfl
  | light => exact windowResponse_withCreditsT p true rfl
  | heavy => exact crossingCheck_withCreditsT p rfl
  | halt => exact crossingCheck_withCreditsT p rfl

end Commutes

/-- The credit counts once an arriving response has used its credit (R163). -/
def spentCredits (s : State) : CreditsT := { s.creditsT with givenResp := s.creditsT.givenResp - 1 }

/-- The credit counts once that credit has been returned too (R117). -/
def returnedCredits (s : State) : CreditsT := { s.creditsT with returnResp := s.creditsT.returnResp + 1 }

theorem exec_targetResponse {pkt : Packet} {s : State} (link : s.linkT.state = .up) (credit : 0 < s.creditsT.givenResp)
    (response : pkt.isResponse = true) :
    exec (.targetResponse pkt) s = .next (takeResponse pkt (withCreditsT (spentCredits s) s)) :=
  congrArg Host.Outcome.next (arrive_response link credit response)

/-- A discarded response leaves the credits given as they were, and one more to be returned (R98 to R100, R102). -/
theorem returnResponses_spent {s t : State} (link : t.linkT.state = .up) (credit : 0 < s.creditsT.givenResp) :
    (withCreditsT (spentCredits s) t).returnResponses 1 = withCreditsT (returnedCredits s) t := by
  have given : s.creditsT.givenResp - 1 + 1 = s.creditsT.givenResp := Nat.sub_add_cancel credit
  simp [withCreditsT, creditsAfterReturns, link, spentCredits, returnedCredits, given]

/-! ### Responses discarded (R98 to R100) -/

section Discarded

variable {pkt : Packet} {s : State} {n : EntryId}

theorem takeResponse_stale (link : s.linkT.state = .up) (credit : 0 < s.creditsT.givenResp)
    (fate : responseFate s pkt = .stale) :
    takeResponse pkt (withCreditsT (spentCredits s) s) = withCreditsT (returnedCredits s) (s.bump .stale) := by
  have fate' : responseFate (withCreditsT (spentCredits s) s) pkt = .stale := fate
  simp only [takeResponse, fate', returnResponses_spent link credit]
  rfl

theorem takeResponse_late (link : s.linkT.state = .up) (credit : 0 < s.creditsT.givenResp)
    (fate : responseFate s pkt = .late n) :
    takeResponse pkt (withCreditsT (spentCredits s) s) =
      withCreditsT (returnedCredits s) ((s.setEntry n (lateEntry (s.entry n))).bump .late) := by
  have fate' : responseFate (withCreditsT (spentCredits s) s) pkt = .late n := fate
  have returned := returnResponses_spent (t := s.setEntry n (lateEntry (s.entry n))) link credit
  simp only [takeResponse, fate']
  exact congrArg (State.bump · .late) returned

theorem takeResponse_mismatch (link : s.linkT.state = .up) (credit : 0 < s.creditsT.givenResp)
    (fate : responseFate s pkt = .mismatch n) :
    takeResponse pkt (withCreditsT (spentCredits s) s) =
      withCreditsT (returnedCredits s)
        ((s.bump .mismatch).plainNotice (.mismatch (s.entry n).pacer pkt.header.tag)) := by
  have fate' : responseFate (withCreditsT (spentCredits s) s) pkt = .mismatch n := fate
  simp only [takeResponse, fate', returnResponses_spent link credit]
  exact plainNotice_withCreditsT _ rfl

end Discarded

/-- Settles O29: the response is judged against the entry it names, and the credit it used is returned. -/
theorem responseIsDiscarded : Obligations.Response_is_discarded := by
  intro pkt s link credit response
  rw [exec_targetResponse link credit response]
  refine ⟨fun stale => ?_, fun n hn => ⟨fun hs ht => ?_, fun hs ht => ?_, fun hs hf => ?_⟩⟩
  · rw [takeResponse_stale link credit (responseFate_stale stale)]
    rfl
  · rw [takeResponse_late link credit (responseFate_eq_late hn (.inl hs) ht)]
    simp only [lateEntry, hs]
    rfl
  · rw [takeResponse_late link credit (responseFate_eq_late hn (.inr hs) ht)]
    simp only [lateEntry, hs]
    rfl
  · rw [takeResponse_mismatch link credit (responseFate_eq_mismatch hn hs hf)]
    rfl

/-! ### Responses matched (R101, R102) -/

/-- Adaptation puts nothing in the Response Buffer or on the Reply List. -/
theorem AdaptFrame.buffers {p : PacerId} {s t : State} (f : AdaptFrame p s t) :
    t.responses = s.responses ∧ t.replies = s.replies := by
  rw [← f.rest]
  exact ⟨rfl, rfl⟩

/-- The state once pacer `p` has had its feedback from the response to entry `n`, its FLIGHT has fallen and the entry is
FREE (R101). -/
def answeredEntry (p : PacerId) (pkt : Packet) (n : EntryId) (s : State) : State :=
  (lowerFlight p (countedResponse p (Pressure.ofCode pkt.header.pressure) s)).setEntry n (freed (s.entry n))

theorem takeResponse_matched {pkt : Packet} {s : State} {n : EntryId} (link : s.linkT.state = .up)
    (credit : 0 < s.creditsT.givenResp) (fate : responseFate s pkt = .matched n) :
    takeResponse pkt (withCreditsT (spentCredits s) s) =
      flightFell (s.entry n).pacer
        (if (s.entry n).orphan then
          withCreditsT (returnedCredits s) ((answeredEntry (s.entry n).pacer pkt n s).bump .orphanDiscards)
        else
          withCreditsT (spentCredits s) (forward pkt (s.entry n).upTxid (answeredEntry (s.entry n).pacer pkt n s))) := by
  have fate' : responseFate (withCreditsT (spentCredits s) s) pkt = .matched n := fate
  have entry : (withCreditsT (spentCredits s) s).entry n = s.entry n := rfl
  obtain ⟨-, -, -, hlink, -⟩ :=
    (countedResponse_frame (s.entry n).pacer (Pressure.ofCode pkt.header.pressure) s).departureFields
  have answered : (lowerFlight (s.entry n).pacer (withCreditsT (spentCredits s) (countedResponse (s.entry n).pacer
      (Pressure.ofCode pkt.header.pressure) s))).setEntry n (releaseEntry (s.entry n)) =
        withCreditsT (spentCredits s) (answeredEntry (s.entry n).pacer pkt n s) := rfl
  have up : (answeredEntry (s.entry n).pacer pkt n s).linkT.state = .up := (congrArg Link.state hlink).trans link
  simp only [takeResponse, fate', matchedResponse, entry, countedResponse_withCreditsT _ _ rfl, answered,
    returnResponses_spent up credit]
  rfl

/-- Settles O30: feedback, the fall of FLIGHT and the entry's end do not read the credit the response used. -/
theorem responseIsMatched : Obligations.Response_is_matched := by
  intro pkt s n link credit response hn hs hf p a b
  have responses : a.responses = s.responses := (countedResponse_frame p _ s).buffers.1
  have answered : answeredEntry p pkt n s = b := rfl
  rw [exec_targetResponse link credit response,
    takeResponse_matched link credit (responseFate_eq_matched hn hs hf)]
  refine ⟨fun ho => ?_, fun ho => ?_⟩
  · rw [if_neg (by simp [ho]), answered, ← responses]
    rfl
  · rw [if_pos ho, answered]
    rfl

/-! ### Expiry (R34, R103) -/

/-- The fall of FLIGHT and the timeout halt come to one change of the pacer's context (R34, R103). -/
theorem timeoutHalt_lowerFlight (p : PacerId) (s : State) :
    timeoutHalt p (lowerFlight p s) =
      if adapts (s.pacer p) then
        crossingCheck p
          (s.setPacer p
            (restarted { s.pacer p with flight := (s.pacer p).flight - 1 } (s.pacer p).cfg.spaceMax))
      else s.setPacer p { s.pacer p with flight := (s.pacer p).flight - 1 } := by
  have adaptation : adapts { s.pacer p with flight := (s.pacer p).flight - 1 } = adapts (s.pacer p) := rfl
  simp only [timeoutHalt, lowerFlight_eq, State.modPacer_eq, State.setPacer_pacer_self, State.setPacer_setPacer,
    adaptation]
  rfl

/-- The state once the expiry of entry `n` has been counted and its notice handed over, before the entry itself ends
(R34, R103). -/
def expiryNoticed (n : EntryId) (s : State) : State :=
  ((timeoutHalt (s.entry n).pacer (lowerFlight (s.entry n).pacer s)).bump .timeouts).plainNotice
    (.respTimeout (s.entry n).pacer (s.entry n).tag (s.entry n).upTxid)

theorem expire_eq (n : EntryId) (s : State) :
    expire n s = flightFell (s.entry n).pacer (expireEntry n (expiryNoticed n s)) := rfl

/-- The halt, the count and the notice leave all that the end of the entry reads. -/
theorem expiryNoticed_fields (n : EntryId) (s : State) :
    (expiryNoticed n s).entry n = s.entry n ∧ (expiryNoticed n s).clock = s.clock ∧
      (expiryNoticed n s).agent.respTimeout = s.agent.respTimeout ∧ (expiryNoticed n s).replies = s.replies := by
  have halted := timeoutHalt_frame (s.entry n).pacer (lowerFlight (s.entry n).pacer s)
  have noticed := State.plainNotice_frame
    ((timeoutHalt (s.entry n).pacer (lowerFlight (s.entry n).pacer s)).bump .timeouts)
    (.respTimeout (s.entry n).pacer (s.entry n).tag (s.entry n).upTxid)
  obtain ⟨clock, -, -, -, -, agent, -⟩ := halted.departureFields
  obtain ⟨-, clock', -, -, -, -, -, -, -, -, -, -, replies', -, agent', -⟩ := noticed.fields
  have timeout := congrArg Agent.respTimeout agent
  have timeout' := congrArg Agent.respTimeout agent'
  exact ⟨(noticed.entry n).trans (halted.entry n), clock'.trans clock, timeout'.trans timeout,
    replies'.trans halted.buffers.2⟩

theorem givenUpOn_congr {s t : State} (clock : t.clock = s.clock) (timeout : t.agent.respTimeout = s.agent.respTimeout)
    (e : Entry) : givenUpOn t e = givenUpOn s e := by
  simp only [givenUpOn, clock, timeout]

theorem deadlineReached_iff (s : State) (e : Entry) :
    deadlineReached s e = true ↔ e.state = .busy ∧ ∃ d, e.deadline = some d ∧ d ≤ s.clock.deviceTime := by
  cases hd : e.deadline <;> simp [deadlineReached, hd]

/-- An entry given up on while its fields, the clock and RESP_TIMEOUT are as they were in `s` (R103). -/
theorem expireEntry_eq {s t : State} {n : EntryId} (entry : t.entry n = s.entry n) (clock : t.clock = s.clock)
    (timeout : t.agent.respTimeout = s.agent.respTimeout) (replies : t.replies = s.replies) :
    expireEntry n t =
      if (s.entry n).orphan then t.setEntry n (givenUpOn s (s.entry n))
      else
        { t.setEntry n
            { s.entry n with
              state := .closing, closeCause := some .timeout, quarantineOnClose := true, deadline := none } with
          replies := s.replies ++ [.givenUp .timeout n] } := by
  unfold expireEntry
  simp only [entry, quarantineEntry_eq_givenUpOn, givenUpOn_congr clock timeout, ← replies]
  rfl

/-- Settles O41: the halt, the count and the notice leave the entry, and the clock and RESP_TIMEOUT that its end reads. -/
theorem entryExpiresAtItsDeadline : Obligations.Entry_expires_at_its_deadline := by
  intro n s
  refine ⟨fun d hs hd reached => ?_, fun early => ?_⟩
  · intro e p low a b
    have expired : deadlineReached s (s.entry n) = true := (deadlineReached_iff _ _).mpr ⟨hs, d, hd, reached⟩
    have taken : exec (.expiry n) s = .next (expire n s) := congrArg Host.Outcome.next (if_pos expired)
    have halted : timeoutHalt p (lowerFlight p s) = a := timeoutHalt_lowerFlight p s
    have noticed : expiryNoticed n s = b :=
      congrArg (fun x : State => (x.bump .timeouts).plainNotice (.respTimeout p e.tag e.upTxid)) halted
    obtain ⟨entry, clock, timeout, replies⟩ := expiryNoticed_fields n s
    rw [taken, expire_eq, expireEntry_eq entry clock timeout replies, noticed]
    rfl
  · have waits : ¬deadlineReached s (s.entry n) = true := fun expired => by
      obtain ⟨hs, d, hd, reached⟩ := (deadlineReached_iff _ _).mp expired
      exact early.elim (fun hn => hn hs) fun hl => Nat.not_lt.mpr reached (hl d hd)
    exact congrArg Host.Outcome.next (if_neg waits)

end Sys2Proof.Machine
end

section
/-!
PROOFS. The response path: the bridge-made response, the placement of the oldest item and the sending of the oldest response
(R104, R116, R119 to R121, R142 to R144).
-/

namespace Sys2Proof.Machine

/-! ### The bridge-made response (R121, R174) -/

/-- Settles O23: a READ is answered with READ_DATA, code 4, any other request with WRITE_DONE, code 5. -/
theorem bridgeMadeResponseIsComposed : Obligations.Bridge_made_response_is_composed := by
  intro read cls tag txid status detail beat
  cases read with
  | true => rfl
  | false => rfl

/-! ### The release of a management item (R120, R142 to R144) -/

/-- The state once `n` requests have left the Management Queue with their credits, and these stay in it (R142). -/
def freedMgmt (n : Nat) (rest : List Packet) (s : State) : State :=
  { s with mgmtQueue := rest, creditsI := creditsAfterAnswers s n }

theorem freeMgmtHead_cons {s : State} {x : Packet} {rest : List Packet} (hq : s.mgmtQueue = x :: rest) :
    freeMgmtHead s = freedMgmt 1 rest s := by
  rw [freeMgmtHead, hq]
  exact State.returnMgmt_eq _

/-- The credits that come back in one event and those that come back after them. -/
theorem creditsAfterAnswers_add {s t : State} {m : Nat} (n : Nat) (link : t.linkI.state = s.linkI.state)
    (credits : t.creditsI = creditsAfterAnswers s m) : creditsAfterAnswers t n = creditsAfterAnswers s (m + n) := by
  simp only [creditsAfterAnswers, link, credits]
  split <;> simp [Nat.add_assoc]

/-- The state once the agent has dropped the first `n` waiting requests, which are posted writes, and these still wait
(R144). -/
def droppedMgmt (n : Nat) (rest : List Packet) (s : State) : State :=
  { freedMgmt n rest s with
    agent :=
      { s.agent with
        counters :=
          tableSet s.agent.counters Counter.mgmtPostedDrops.index
            (saturatingSucc^[n] (s.counter .mgmtPostedDrops)) } }

theorem dropMgmtPosted_cons {s : State} {x : Packet} {rest : List Packet} (hq : s.mgmtQueue = x :: rest) :
    dropMgmtPosted s = droppedMgmt 1 rest s := by
  rw [dropMgmtPosted, freeMgmtHead_cons hq]
  rfl

theorem droppedMgmt_zero (s : State) : droppedMgmt 0 s.mgmtQueue s = s := by
  have credits : creditsAfterAnswers s 0 = s.creditsI := by simp [creditsAfterAnswers]
  have counters : tableSet s.agent.counters Counter.mgmtPostedDrops.index (s.counter .mgmtPostedDrops) =
      s.agent.counters := tableSet_tableGet _ _
  rw [droppedMgmt, freedMgmt, credits, Function.iterate_zero_apply, counters]

/-- Two runs dropped one after the other are one run. -/
theorem droppedMgmt_droppedMgmt (m n : Nat) (next rest : List Packet) (s : State) :
    droppedMgmt n rest (droppedMgmt m next s) = droppedMgmt (n + m) rest s := by
  have counter : (droppedMgmt m next s).counter .mgmtPostedDrops = saturatingSucc^[m] (s.counter .mgmtPostedDrops) :=
    tableGet_tableSet_self _ _ _
  have credits : creditsAfterAnswers (droppedMgmt m next s) n = creditsAfterAnswers s (n + m) :=
    Nat.add_comm n m ▸ creditsAfterAnswers_add n rfl rfl
  rw [droppedMgmt, freedMgmt, counter, credits, ← Function.iterate_add_apply]
  simp [droppedMgmt, freedMgmt]

/-- A READY agent drops a run of posted writes at the head of its queue, and goes on behind it (R143, R144). -/
theorem agentRun_posted {posted : List Packet} (waiting : List Packet) {s : State}
    (hq : s.mgmtQueue = posted ++ waiting) (hp : ∀ x ∈ posted, isPosted x = true) :
    agentRun (posted ++ waiting) s = agentRun waiting (droppedMgmt posted.length waiting s) := by
  induction posted generalizing s with
  | nil =>
    have hw : s.mgmtQueue = waiting := hq
    rw [List.length_nil, ← hw, droppedMgmt_zero]
    rfl
  | cons x xs ih =>
    obtain ⟨hx, hxs⟩ := List.forall_mem_cons.mp hp
    have hcons : s.mgmtQueue = x :: (xs ++ waiting) := hq
    rw [List.cons_append, agentRun, if_pos hx, dropMgmtPosted_cons hcons, ih rfl hxs, droppedMgmt_droppedMgmt]
    rfl

/-- The state once an answered request has left the queue, the agent is READY, and it has dropped the `n` posted
writes behind that request (R120, R143, R144). -/
def readiedAgent (n : Nat) (waiting : List Packet) (s : State) : State :=
  { s with
    mgmtQueue := waiting, creditsI := creditsAfterAnswers s (n + 1),
    agent :=
      { s.agent with
        state := .ready,
        counters :=
          tableSet s.agent.counters Counter.mgmtPostedDrops.index
            (saturatingSucc^[n] (s.counter .mgmtPostedDrops)) } }

theorem releaseMgmt_posted {s : State} {req : Packet} {posted waiting : List Packet}
    (hq : s.mgmtQueue = req :: (posted ++ waiting)) (hp : ∀ x ∈ posted, isPosted x = true) :
    releaseMgmt s = agentRun waiting (readiedAgent posted.length waiting s) := by
  obtain ⟨r, hr⟩ : ∃ r : State, r =
      { freedMgmt 1 (posted ++ waiting) s with agent := { s.agent with state := .ready } } := ⟨_, rfl⟩
  have queue : r.mgmtQueue = posted ++ waiting := by rw [hr]; rfl
  have ready : r.agent.state = .ready := by rw [hr]
  have released : releaseMgmt s = agentLook r := by rw [releaseMgmt, freeMgmtHead_cons hq, hr]; rfl
  have credits : creditsAfterAnswers r posted.length = creditsAfterAnswers s (posted.length + 1) := by
    rw [Nat.add_comm, hr]
    exact creditsAfterAnswers_add _ rfl rfl
  have dropped : droppedMgmt posted.length waiting r = readiedAgent posted.length waiting s := by
    rw [droppedMgmt, freedMgmt, credits, hr]
    rfl
  rw [released, agentLook, ready, queue, ← dropped]
  exact agentRun_posted waiting queue hp

/-! ### The placement of the oldest item (R104, R119 to R121) -/

/-- With no item, or with no room in the bridge-made share, nothing is placed (R119). -/
theorem execReplyPlacement_idle {s : State} (h : s.replies = [] ∨ Config.bridgeShare ≤ s.bridgeCount) :
    execReplyPlacement s = .next s := by
  unfold execReplyPlacement
  cases hr : s.replies with
  | nil => rfl
  | cons i rest =>
    have full : ¬s.bridgeCount < Config.bridgeShare := Nat.not_lt.mpr (h.resolve_left (by simp [hr]))
    exact congrArg Host.Outcome.next (if_neg full)

/-- The agent's answer of the request at the head of its queue (R121, R143). -/
theorem composeReply_mgmt {s : State} {req : Packet} {rest : List Packet} (status : BitVec 5) (detail : BitVec 8)
    (beat : Beat) (hq : s.mgmtQueue = req :: rest) :
    composeReply s (.mgmt status detail beat) =
      some (bridgeResponse (isRead req) classMgmt req.header.tag req.header.txid status detail beat) := by
  rw [composeReply, hq]

/-- The agent's answer is placed, and the READY agent goes on behind the posted writes that waited (R119, R143, R144). -/
theorem execReplyPlacement_mgmt {s : State} {status : BitVec 5} {detail : BitVec 8} {beat : Beat} {rest : List ReplyItem}
    {req : Packet} {posted waiting : List Packet} (hr : s.replies = .mgmt status detail beat :: rest)
    (hb : s.bridgeCount < Config.bridgeShare) (hq : s.mgmtQueue = req :: (posted ++ waiting))
    (hp : ∀ x ∈ posted, isPosted x = true) :
    execReplyPlacement s =
      .next (agentRun waiting (readiedAgent posted.length waiting
        (itemTaken (bridgeResponse (isRead req) classMgmt req.header.tag req.header.txid status detail beat) rest s))) := by
  rw [execReplyPlacement_placed hr hb (composeReply_mgmt status detail beat hq), placeItem_eq]
  exact congrArg Host.Outcome.next (releaseMgmt_posted hq hp)

/-- Settles O44: each item's answer is composed, and what it held is then released: a hold slot, an entry, or the head of the
Management Queue. -/
theorem replyItemIsPlaced : Obligations.Reply_item_is_placed := by
  intro s
  refine ⟨execReplyPlacement_idle, fun req cause p rest hr hb => ?_, fun cause n rest hr hb => ?_, ?_⟩
  · refine (execReplyPlacement_placed hr hb rfl).trans (congrArg Host.Outcome.next ?_)
    rw [placeItem_eq, releaseResource, State.returnTraffic_eq]
    rfl
  · exact execReplyPlacement_placed hr hb rfl
  · intro status detail beat rest req posted waiting hr hb hq hp b
    have placed : exec .replyPlacement s = .next (agentRun waiting b) := execReplyPlacement_mgmt hr hb hq hp
    refine ⟨fun hw => ?_, fun next tail hw hn => ?_⟩
    · rw [placed, hw]
      rfl
    · rw [placed, hw, agentRun, if_neg (by simp [hn])]

/-! ### The sending of the oldest response (R116, R117) -/

/-- What the sending of a response leaves: only an entry of target origin returns a T-port credit. -/
theorem sendResponse_eq (r : BufferedResponse) (rest : List BufferedResponse) (s : State) :
    sendResponse r rest s =
      { s with
        responses := rest,
        creditsI := { s.creditsI with heldResp := s.creditsI.heldResp - 1 },
        linkI := { s.linkI with lane := s.linkI.lane ++ [r.packet.wire] },
        creditsT := if r.origin = .target then creditsAfterReturns s 1 else s.creditsT } := by
  obtain ⟨pkt, origin⟩ := r
  cases origin with
  | target => exact State.returnResponses_eq _ 1
  | bridge => rfl

/-- Settles O46: the oldest entry is sent under the port's two conditions, and waits without either. -/
theorem oldestResponseIsSent : Obligations.Oldest_response_is_sent := by
  intro s
  refine ⟨fun r rest hr link credit => ?_, fun idle => ?_⟩
  · rw [← sendResponse_eq]
    show execResponseSend s = _
    rw [execResponseSend, hr]
    exact congrArg Host.Outcome.next (if_pos ⟨link, credit⟩)
  · show execResponseSend s = _
    unfold execResponseSend
    cases hr : s.responses with
    | nil => rfl
    | cons r rest =>
      have waits : ¬(s.linkI.state = .up ∧ 0 < s.creditsI.heldResp) := fun ⟨link, credit⟩ =>
        (idle.resolve_left (by simp [hr])).elim (· link) (Nat.ne_of_gt credit)
      exact congrArg Host.Outcome.next (if_neg waits)

end Sys2Proof.Machine
end

section
/-!
PROOFS. Notices and alerts (chapter 08): what becomes of a notice and of a crossing that is handed over, what acts on
the alert flags, and what a pop does.
-/

namespace Sys2Proof.Machine

/-! ### Notices handed over (R128, R130, R131, R136) -/

theorem noticeRoom_iff (s : State) : s.noticeRoom = true ↔ s.notices.records.length < 32 := decide_eq_true_iff

/-- The notice's record, with its stamp, at the tail of the queue (R128, R131). -/
def withRecord (b : NoticeBody) (s : State) : State :=
  { s with notices := { s.notices with records := s.notices.records ++ [⟨b, s.stamp⟩] } }

section HandedOver

variable {b : NoticeBody} {s : State}

theorem plainNotice_disabled (disabled : s.noticeEnable b.kind = false) : s.plainNotice b = s :=
  if_neg (by rw [disabled]; exact Bool.false_ne_true)

theorem plainNotice_entered (enabled : s.noticeEnable b.kind = true) (room : s.notices.records.length < 32) :
    s.plainNotice b = s.enterNotice b :=
  (if_pos enabled).trans (if_pos ((noticeRoom_iff s).mpr room))

theorem plainNotice_lost (enabled : s.noticeEnable b.kind = true) (full : 32 ≤ s.notices.records.length) :
    s.plainNotice b = s.loseNotice :=
  (if_pos enabled).trans (if_neg (mt (noticeRoom_iff s).mp (not_lt.mpr full)))

/-- An entry makes no ALERT due if a record waits already, or with ALERT_ENABLE or ALERT_ARMED clear (R136). -/
theorem enterNotice_quiet (h : s.notices.records ≠ [] ∨ s.alertEnable = false ∨ s.notices.alertArmed = false) :
    s.enterNotice b = withRecord b s :=
  if_neg (by
    show ¬(s.notices.records.isEmpty && s.alertEnable && s.notices.alertArmed) = true
    rcases h with h | h | h <;> simp [h])

/-- An entry into an empty queue makes an ALERT due with both flags set (R136). -/
theorem enterNotice_alerts (empty : s.notices.records = []) (enable : s.alertEnable = true)
    (armed : s.notices.alertArmed = true) : s.enterNotice b = (withRecord b s).alertDue :=
  if_pos (by
    show (s.notices.records.isEmpty && s.alertEnable && s.notices.alertArmed) = true
    simp [empty, enable, armed])

end HandedOver

/-- Settles O19, by the enable, the room in the queue and the state of the alert. -/
theorem noticeIsEnteredOrLost : Obligations.Notice_is_entered_or_lost := by
  intro b s
  refine ⟨plainNotice_disabled, plainNotice_lost, fun enabled room quiet => ?_, fun enabled empty enable armed up => ?_,
    fun enabled empty enable armed down => ?_⟩
  · rw [plainNotice_entered enabled room, enterNotice_quiet quiet]
    rfl
  · rw [plainNotice_entered enabled (by simp [empty]), enterNotice_alerts empty enable armed,
      State.alertDue_up (withRecord b s) up]
    simp only [withRecord, empty]
    rfl
  · rw [plainNotice_entered enabled (by simp [empty]), enterNotice_alerts empty enable armed,
      State.alertDue_notUp (withRecord b s) down]
    simp only [withRecord, empty]
    rfl

/-! ### Crossings (R38, R130, R132) -/

theorem enterNotice_pacer (b : NoticeBody) (p : PacerId) (s : State) : (s.enterNotice b).pacer p = s.pacer p := by
  simp only [State.pacer, (s.enterNotice_frame b).pacers]

section Crossing

variable {p : PacerId} {b : NoticeBody} {s : State}

theorem crossing_disabled (disabled : s.noticeEnable b.kind = false) : crossing p b s = s :=
  if_neg (by rw [disabled]; exact Bool.false_ne_true)

theorem crossing_cancels (enabled : s.noticeEnable b.kind = true) (pending : (s.pacer p).crossPending = true) :
    crossing p b s = s.removeCrossing p :=
  (if_pos enabled).trans (if_pos pending)

/-- An entered crossing is entered as any notice, and sets CROSS_PENDING (R131, R132). -/
theorem crossing_entered (enabled : s.noticeEnable b.kind = true) (clear : (s.pacer p).crossPending = false)
    (room : s.notices.records.length < 32) :
    crossing p b s = (s.enterNotice b).setPacer p { s.pacer p with crossPending := true } := by
  rw [crossing, if_pos enabled, clear, if_neg Bool.false_ne_true, if_pos ((noticeRoom_iff s).mpr room),
    State.modPacer_eq, enterNotice_pacer]

theorem crossing_lost (enabled : s.noticeEnable b.kind = true) (clear : (s.pacer p).crossPending = false)
    (full : 32 ≤ s.notices.records.length) : crossing p b s = s.loseNotice := by
  rw [crossing, if_pos enabled, clear, if_neg Bool.false_ne_true,
    if_neg (mt (noticeRoom_iff s).mp (not_lt.mpr full))]

end Crossing

/-- Settles O18, by the enable, CROSS_PENDING and the room in the queue. -/
theorem crossingIsCancelledEnteredOrLost : Obligations.Crossing_is_cancelled_entered_or_lost := by
  intro p b s _
  refine ⟨crossing_disabled, fun enabled pending => ?_, fun enabled clear room => ?_, crossing_lost⟩
  · rw [crossing_cancels enabled pending, State.removeCrossing_eq]
  · rw [crossing_entered enabled clear room, plainNotice_entered enabled room]

/-! ### REARM_ALERT and the enables word (R136, R137, R152) -/

/-- ALERT_ARMED set (R137). -/
def withArmed (s : State) : State := { s with notices := { s.notices with alertArmed := true } }

theorem rearmAlert_quiet {s : State} (h : s.alertEnable = false ∨ s.notices.records = []) :
    rearmAlert s = withArmed s :=
  if_neg (by
    show ¬(s.alertEnable && !s.notices.records.isEmpty) = true
    rcases h with h | h <;> simp [h])

theorem rearmAlert_due {s : State} (enable : s.alertEnable = true) (waits : s.notices.records ≠ []) :
    rearmAlert s = (withArmed s).alertDue :=
  if_pos (by
    show (s.alertEnable && !s.notices.records.isEmpty) = true
    simp [enable, waits])

/-- The enables word taken (R152). -/
def withEnables (v : BitVec 8) (s : State) : State := { s with agent := { s.agent with enables := v } }

section WriteEnables

variable {s : State} {v : BitVec 8}

theorem writeEnables_eq (v : BitVec 8) (s : State) :
    writeEnables v s =
      if s.alertEnable && !v.getLsbD 7 then
        { withEnables v s with notices := { s.notices with alertPending := false, alertArmed := true } }
      else if !s.alertEnable && v.getLsbD 7 && s.notices.alertArmed && !s.notices.records.isEmpty then
        (withEnables v s).alertDue
      else withEnables v s := rfl

/-- The flag as it was, no alert flag changes (R137). -/
theorem writeEnables_same (h : v.getLsbD 7 = s.alertEnable) : writeEnables v s = withEnables v s := by
  rw [writeEnables_eq, h, if_neg (by simp), if_neg (by simp)]

/-- Alerts disabled: none is pending any more, and the next is armed (R137). -/
theorem writeEnables_off (before : s.alertEnable = true) (after : v.getLsbD 7 = false) :
    writeEnables v s =
      { withEnables v s with notices := { s.notices with alertPending := false, alertArmed := true } } := by
  rw [writeEnables_eq, before, after]
  rfl

/-- Alerts enabled: an armed ALERT becomes due if a record waits (R137). -/
theorem writeEnables_on (before : s.alertEnable = false) (after : v.getLsbD 7 = true) :
    writeEnables v s =
      if s.notices.alertArmed = true ∧ s.notices.records ≠ [] then (withEnables v s).alertDue else withEnables v s := by
  rw [writeEnables_eq, before, after, if_neg (by decide)]
  exact if_congr (by simp) rfl rfl

end WriteEnables

/-- REARM_ALERT names no pacer, whatever its pacer field holds (R154). -/
theorem exec_cmdRearmAlert {s : State} {src : Sender} (ho : MgmtOpen s src) (x : BitVec 8) (v : BitVec 16) :
    exec (.cmdRearmAlert src x v) s = .next (commandDone s (rearmAlert s) 0x08 src x v .accepted) :=
  congrArg Host.Outcome.next (writeCommandWord_eq ho Command.rearmAlert.code x v)

theorem exec_enablesWrite {s : State} {src : Sender} (ho : MgmtOpen s src) (v : MgmtWord) :
    exec (.enablesWrite src v) s = .next (writeDone s (writeEnables (v.extractLsb' 0 8) s) src .enables v 0) :=
  congrArg Host.Outcome.next (writeArrives_eq ho .enables v)

/-- Settles O56: an ALERT that becomes due goes out on Link port I, which is UP where a request is taken. -/
theorem alertIsRearmedAndEnabled : Obligations.Alert_is_rearmed_and_enabled := by
  intro src x v word s ho
  obtain ⟨up, -⟩ := id ho
  have enable : (word.extractLsb' 0 8).getLsbD 7 = word.getLsbD 7 := by simp
  refine ⟨fun quiet => ?_, fun now waits => ?_, fun same => ?_, fun before after => ?_, fun before after => ?_⟩
  · rw [exec_cmdRearmAlert ho, rearmAlert_quiet quiet]
    rfl
  · rw [exec_cmdRearmAlert ho, rearmAlert_due now waits, State.alertDue_up (withArmed s) up]
    rfl
  · rw [exec_enablesWrite ho, writeEnables_same (enable.trans same)]
    rfl
  · rw [exec_enablesWrite ho, writeEnables_off before (enable.trans after)]
    rfl
  · rw [exec_enablesWrite ho, writeEnables_on before (enable.trans after),
      State.alertDue_up (withEnables (word.extractLsb' 0 8) s) up]
    rfl

/-! ### Pop and peek (R134, R135) -/

section Pop

variable {s : State} {r : Notice} {rest : List Notice}

theorem popNotice_nil (hr : s.notices.records = []) :
    popNotice s = { s with notices := { s.notices with overflow := false, alertArmed := true } } := by
  unfold popNotice
  rw [hr]

theorem popNotice_plain (hr : s.notices.records = r :: rest) (hb : r.body.crossingOf = none) :
    popNotice s = { s with notices := { s.notices with records := rest, overflow := false } } := by
  unfold popNotice
  rw [hr]
  dsimp only
  rw [hb]

theorem popNotice_crossing {p : PacerId} (hr : s.notices.records = r :: rest) (hb : r.body.crossingOf = some p) :
    popNotice s =
      { s.setPacer p { s.pacer p with crossPending := false } with
        notices := { s.notices with records := rest, overflow := false } } := by
  unfold popNotice
  rw [hr]
  dsimp only
  rw [hb]
  rfl

end Pop

end Sys2Proof.Machine
end

section
/-!
PROOFS. The beat that answers a pop or a peek (R177), and the two READs (R134, R135).
-/

namespace Sys2Proof.Machine

/-! ### Fields placed in a word (section 12.3) -/

section Place

variable {n : Nat} (x : BitVec n)

theorem getLsbD_place (k i : Nat) : (place x k).getLsbD i = (decide (k ≤ i ∧ i < 64) && x.getLsbD (i - k)) := by
  simp only [place, BitVec.getLsbD_shiftLeft, BitVec.getLsbD_setWidth]
  by_cases hi : i < 64
  · by_cases hk : k ≤ i
    · simp [hi, hk, show i - k < 64 by omega]
    · simp [hi, hk, not_le.mp hk]
  · simp [hi]

/-- What is placed stands at its bits. -/
theorem place_extract_self {k : Nat} (h : k + n ≤ 64) : (place x k).extractLsb' k n = x := by
  ext i hi
  rw [BitVec.getElem_extractLsb', getLsbD_place, ← BitVec.getLsbD_eq_getElem]
  simp [show k + i < 64 by omega]

/-- What is placed shows at none of the bits beside it. -/
theorem place_extract_beside {k start len : Nat} (h : start + len ≤ k ∨ k + n ≤ start) :
    (place x k).extractLsb' start len = 0 := by
  ext i hi
  rw [BitVec.getElem_extractLsb', getLsbD_place]
  rcases h with h | h
  · simp [show ¬k ≤ start + i by omega]
  · simp [BitVec.getLsbD_of_ge x (start + i - k) (by omega)]

/-- Nothing is placed outside the bits of its place. -/
theorem place_and_of_allOnes {k : Nat} {m : MgmtWord} (h : place (BitVec.allOnes n) k &&& m = 0) :
    place x k &&& m = 0 := by
  have within : place x k = place x k &&& place (BitVec.allOnes n) k := by
    rw [place, place, ← BitVec.shiftLeft_and_distrib, ← BitVec.setWidth_and, BitVec.and_allOnes]
  rw [within, BitVec.and_assoc, h]
  exact BitVec.and_zero

end Place

theorem place_zero (n k : Nat) : place (0 : BitVec n) k = 0#64 := by simp [place]

/-! ### The beat that carries a notice (R177) -/

/-- The word of a notice is its fields placed, the absent ones 0 (R177). -/
theorem noticeWord_eq (b : NoticeBody) :
    noticeWord b =
      place (noticeFields b).kind 0 ||| place (noticeFields b).pacer 8 ||| place (noticeFields b).tag 16 |||
        place (noticeFields b).txid 32 ||| place (noticeFields b).value 40 := by
  cases b with
  | linkReset port =>
    cases port with
    | i => simp only [noticeWord, noticeFields, NoticeKind.code, place_zero, BitVec.or_zero]
    | t =>
      simp only [noticeWord, noticeFields, NoticeKind.code, placeCount, place_zero, BitVec.or_zero]
      rfl
  | _ => simp only [noticeWord, noticeFields, NoticeKind.code, placeCount, place_zero, BitVec.or_zero]

/-- The second word of a notice's beat: STAMP, the count and OVERFLOW (R177). -/
def noticeTail (stamp : BitVec 32) (n : Nat) (o : Bool) : MgmtWord :=
  place stamp 0 ||| placeCount n 6 32 ||| placeFlag o 40

section Beat

variable (b : NoticeBody) (stamp : BitVec 32) (n : Nat) (o : Bool)

theorem noticeBeat_some :
    noticeBeat (some ⟨b, stamp⟩) n o = (0 : BitVec 128) ++ noticeTail stamp n o ++ noticeWord b := rfl

theorem noticeBeat_low {start len : Nat} (h : start + len ≤ 64) :
    (noticeBeat (some ⟨b, stamp⟩) n o).extractLsb' start len = (noticeWord b).extractLsb' start len :=
  BitVec.extractLsb'_append_eq_of_add_le h

theorem noticeBeat_high {start len : Nat} (low : 64 ≤ start) (high : start + len ≤ 128) :
    (noticeBeat (some ⟨b, stamp⟩) n o).extractLsb' start len =
      (noticeTail stamp n o).extractLsb' (start - 64) len :=
  (BitVec.extractLsb'_append_eq_of_le low).trans (BitVec.extractLsb'_append_eq_of_add_le (by omega))

/-- Each field of the record stands at its bits of the beat (R177). -/
theorem noticeBeat_fields :
    let beat := noticeBeat (some ⟨b, stamp⟩) n o
    let fields := noticeFields b
    beat.extractLsb' 0 4 = fields.kind ∧ beat.extractLsb' 8 7 = fields.pacer ∧ beat.extractLsb' 16 10 = fields.tag ∧
      beat.extractLsb' 32 8 = fields.txid ∧ beat.extractLsb' 40 16 = fields.value := by
  intro beat fields
  refine ⟨?_, ?_, ?_, ?_, ?_⟩ <;>
    rw [noticeBeat_low _ _ _ _ (by decide), noticeWord_eq] <;>
    simp (disch := decide) only [BitVec.extractLsb'_or, place_extract_self, place_extract_beside] <;>
    simp [fields]

/-- STAMP, the count and OVERFLOW stand at their bits (R177). -/
theorem noticeBeat_tail :
    let beat := noticeBeat (some ⟨b, stamp⟩) n o
    beat.extractLsb' 64 32 = stamp ∧ beat.extractLsb' 96 6 = BitVec.ofNat 6 n ∧ beat.getLsbD 104 = o := by
  refine ⟨?_, ?_, ?_⟩
  · rw [noticeBeat_high _ _ _ _ (by decide) (by decide), noticeTail, placeCount, placeFlag]
    simp (disch := decide) only [BitVec.extractLsb'_or, place_extract_self, place_extract_beside]
    simp
  · rw [noticeBeat_high _ _ _ _ (by decide) (by decide), noticeTail, placeCount, placeFlag]
    simp (disch := decide) only [BitVec.extractLsb'_or, place_extract_self, place_extract_beside]
    simp
  · rw [noticeBeat_some, noticeTail, placeCount, placeFlag]
    simp only [BitVec.getLsbD_append, BitVec.getLsbD_or, getLsbD_place]
    simp

/-- Every other bit is 0 (R177). -/
theorem noticeBeat_and_beside :
    noticeBeat (some ⟨b, stamp⟩) n o &&& ~~~(0x13FFFFFFFFF00FFFFFF03FF7F0F : Beat) = 0 := by
  have mask : ~~~(0x13FFFFFFFFF00FFFFFF03FF7F0F : Beat) =
      BitVec.allOnes 128 ++ ~~~(0x13FFFFFFFFF : MgmtWord) ++ ~~~(0x00FFFFFF03FF7F0F : MgmtWord) := by decide
  have low : noticeWord b &&& ~~~(0x00FFFFFF03FF7F0F : MgmtWord) = 0 := by
    rw [noticeWord_eq]
    simp only [BitVec.and_or_distrib_right]
    rw [place_and_of_allOnes _ (by decide), place_and_of_allOnes _ (by decide), place_and_of_allOnes _ (by decide),
      place_and_of_allOnes _ (by decide), place_and_of_allOnes _ (by decide)]
    rfl
  have high : noticeTail stamp n o &&& ~~~(0x13FFFFFFFFF : MgmtWord) = 0 := by
    rw [noticeTail, placeCount, placeFlag]
    simp only [BitVec.and_or_distrib_right]
    rw [place_and_of_allOnes _ (by decide), place_and_of_allOnes _ (by decide), place_and_of_allOnes _ (by decide)]
    rfl
  rw [noticeBeat_some, mask, BitVec.and_append, BitVec.and_append, low, high]
  rfl

end Beat

/-! ### The READs of the two words (R134, R135) -/

theorem exec_noticePop {s e : State} {src : Sender} {beat : Beat} (ho : MgmtOpen s src) (he : popNotice s = e)
    (hb : popBeat s = beat) :
    exec (.noticePop src) s =
      .next (answered e (readRequest s src .pop) { status := 0, detail := 0, beat := beat }) := by
  rw [← he, ← hb]
  exact congrArg Host.Outcome.next (readArrives_eq ho .pop)

/-- Settles O57: the beat by its two words, a pop by what the queue holds. -/
theorem noticeIsPoppedOrPeeked : Obligations.Notice_is_popped_or_peeked := by
  refine ⟨fun b stamp n o => ?_, fun o => by cases o <;> rfl, fun src s ho => ⟨fun hr => ?_, fun r rest hr hb => ?_,
    fun r rest p hr hb => ?_, ?_⟩⟩
  · obtain ⟨kind, pacer, tag, txid, value⟩ := noticeBeat_fields b stamp n o
    obtain ⟨hstamp, count, overflow⟩ := noticeBeat_tail b stamp n o
    exact ⟨kind, pacer, tag, txid, value, hstamp, count, overflow, noticeBeat_and_beside b stamp n o⟩
  · exact exec_noticePop ho (popNotice_nil hr) (by simp [popBeat, hr])
  · exact exec_noticePop ho (popNotice_plain hr hb) (by simp [popBeat, hr])
  · exact exec_noticePop ho (popNotice_crossing hr hb) (by simp [popBeat, hr])
  · exact congrArg Host.Outcome.next (readArrives_eq ho .peek)

end Sys2Proof.Machine
end

section
/-!
PROOFS. Every step keeps the notice-queue law (R140).

A plain notice, a crossing, a withdrawal and a pop change the records together with CROSS_PENDING. Whatever else an
event does is a `PendingFrame`: the records and every CROSS_PENDING stay, and no pacer with a crossing pending stops
adapting.
-/

namespace Sys2Proof.Machine

/-! ### What the law does not read -/

/-- CROSS_PENDING stays, and while it is set the pacer does not leave LIVE and PAUSED. -/
structure Pacer.KeepsPending (c d : Pacer) : Prop where
  pending : d.crossPending = c.crossPending
  adapting : c.crossPending = true → adapts c = true → adapts d = true

theorem Pacer.KeepsPending.of_state {c d : Pacer} (pending : d.crossPending = c.crossPending)
    (state : d.state = c.state) : c.KeepsPending d :=
  ⟨pending, fun _ ha => by rwa [adapts, state]⟩

theorem Pacer.KeepsPending.refl (c : Pacer) : c.KeepsPending c := .of_state rfl rfl

theorem Pacer.KeepsPending.trans {c d e : Pacer} (f : c.KeepsPending d) (g : d.KeepsPending e) : c.KeepsPending e :=
  ⟨g.pending.trans f.pending, fun hp ha => g.adapting (f.pending.trans hp) (f.adapting hp ha)⟩

/-- A pacer with no crossing pending may go to any state. -/
theorem Pacer.KeepsPending.of_clear {c d : Pacer} (before : c.crossPending = false) (after : d.crossPending = false) :
    c.KeepsPending d :=
  ⟨after.trans before.symm, fun hp => by rw [before] at hp; cases hp⟩

/-- The records are the same, and every pacer keeps what is pending of it. -/
structure PendingFrame (s t : State) : Prop where
  records : t.notices.records = s.notices.records
  pacers : ∀ p, (s.pacer p).KeepsPending (t.pacer p)

theorem NoticeLaw.adapts_of_pending {s : State} (h : NoticeLaw s) {p : PacerId}
    (hp : (s.pacer p).crossPending = true) : adapts (s.pacer p) = true := by
  by_contra ha
  rw [h.quiet p (Bool.eq_false_iff.mpr ha)] at hp
  cases hp

theorem NoticeLaw.frame {s t : State} (h : NoticeLaw s) (f : PendingFrame s t) : NoticeLaw t where
  room := by rw [f.records]; exact h.room
  pending p := by rw [crossingRecords, f.records, (f.pacers p).pending]; exact h.pending p
  quiet p ha := by
    rw [(f.pacers p).pending]
    by_contra hp
    rw [Bool.not_eq_false] at hp
    rw [(f.pacers p).adapting hp (h.adapts_of_pending hp)] at ha
    cases ha

/-- What the law reads, and of the pacers more than that. -/
def State.noticeReads (s : State) : List Notice × Vector Pacer 128 := (s.notices.records, s.pacers)

theorem PendingFrame.keep {s t : State} (h : t.noticeReads = s.noticeReads) : PendingFrame s t := by
  obtain ⟨records, pacers⟩ := Prod.mk.inj h
  exact ⟨records, fun p => by simp only [State.pacer, pacers]; exact .refl _⟩

theorem PendingFrame.refl (s : State) : PendingFrame s s := .keep rfl

theorem PendingFrame.trans {s t u : State} (f : PendingFrame s t) (g : PendingFrame t u) : PendingFrame s u :=
  ⟨g.records.trans f.records, fun p => (f.pacers p).trans (g.pacers p)⟩

/-- A frame of a state of which the law reads the same. -/
theorem PendingFrame.after {s t u : State} (g : PendingFrame t u) (h : t.noticeReads = s.noticeReads) :
    PendingFrame s u :=
  (PendingFrame.keep h).trans g

/-- Pacer `p`'s context changes, and whatever the law does not read. -/
theorem PendingFrame.of_setPacer {s t : State} {p : PacerId} {c : Pacer}
    (h : t.noticeReads = (s.setPacer p c).noticeReads) (hc : (s.pacer p).KeepsPending c) : PendingFrame s t := by
  refine PendingFrame.trans (t := s.setPacer p c) ⟨rfl, fun q => ?_⟩ (.keep h)
  rw [State.setPacer_pacer]
  split
  · rename_i hq
    rwa [hq]
  · exact .refl _

/-- Every context changes alike, in neither CROSS_PENDING nor its state. -/
theorem PendingFrame.map {s t : State} {f : Pacer → Pacer} (h : t.noticeReads = (s.notices.records, s.pacers.map f))
    (pending : ∀ c, (f c).crossPending = c.crossPending) (state : ∀ c, (f c).state = c.state) : PendingFrame s t := by
  obtain ⟨records, pacers⟩ := Prod.mk.inj h
  refine ⟨records, fun p => ?_⟩
  rw [State.pacer, State.pacer, pacers, tableGet_map]
  exact .of_state (pending _) (state _)

/-! ### Plain notices -/

/-- An entered record is one more of the pacer whose crossing it is, and of no other (R131). -/
theorem crossingRecords_enterNotice (b : NoticeBody) (p : PacerId) (s : State) :
    crossingRecords (s.enterNotice b) p = crossingRecords s p + if b.crossingOf = some p then 1 else 0 := by
  simp [crossingRecords, State.enterNotice_records, List.countP_append, List.countP_singleton]

/-- Entered where there is room, a record leaves the queue at 32 at most (R131). -/
theorem enterNotice_room {b : NoticeBody} {s : State} (room : s.notices.records.length < 32) :
    (s.enterNotice b).notices.records.length ≤ Config.noticeRecords := by
  rw [State.enterNotice_records, List.length_append]
  exact room

theorem loseNotice_pending (s : State) : PendingFrame s s.loseNotice := .keep rfl

/-- A notice that is no crossing leaves every count of crossings as it was (R131). -/
theorem plainNotice_noticeLaw {b : NoticeBody} {s : State} (h : NoticeLaw s) (hb : b.crossingOf = none) :
    NoticeLaw (s.plainNotice b) := by
  by_cases enabled : s.noticeEnable b.kind = true
  · by_cases room : s.notices.records.length < 32
    · rw [plainNotice_entered enabled room]
      exact
        { room := enterNotice_room room
          pending := fun p => by
            rw [crossingRecords_enterNotice, hb, if_neg nofun, enterNotice_pacer]
            exact h.pending p
          quiet := fun p => by
            rw [enterNotice_pacer]
            exact h.quiet p }
    · rw [plainNotice_lost enabled (not_lt.mp room)]
      exact h.frame (loseNotice_pending s)
  · rw [plainNotice_disabled (Bool.eq_false_iff.mpr enabled)]
    exact h

/-! ### Crossings -/

/-- Of the records that a withdrawal leaves, none is the pacer's, and the other pacers' all are there (R132). -/
theorem crossingRecords_removeCrossing (p q : PacerId) (s : State) :
    crossingRecords (s.removeCrossing p) q = if q = p then 0 else crossingRecords s q := by
  rw [State.removeCrossing_eq, crossingRecords, List.countP_filter]
  split
  · rename_i hq
    rw [List.countP_eq_zero]
    simp [hq]
  · rename_i hq
    refine List.countP_congr fun r _ => ?_
    simp only [Bool.and_eq_true, beq_iff_eq, bne_iff_ne]
    exact ⟨And.left, fun hr => ⟨hr, fun he => hq (Option.some.inj (hr.symm.trans he))⟩⟩

theorem removeCrossing_pacer (p q : PacerId) (s : State) :
    (s.removeCrossing p).pacer q = if q = p then { s.pacer p with crossPending := false } else s.pacer q := by
  rw [← State.setPacer_pacer]
  rfl

/-- The records of one pacer change, and its context, with its CROSS_PENDING set if one is left and the pacer adapts. -/
theorem NoticeLaw.recount {s t : State} {p : PacerId} (h : NoticeLaw s)
    (room : t.notices.records.length ≤ Config.noticeRecords)
    (others : ∀ q, q ≠ p → t.pacer q = s.pacer q ∧ crossingRecords t q = crossingRecords s q)
    (own : crossingRecords t p = if (t.pacer p).crossPending then 1 else 0)
    (quiet : adapts (t.pacer p) = false → (t.pacer p).crossPending = false) : NoticeLaw t where
  room := room
  pending q := by
    rcases eq_or_ne q p with rfl | hq
    · exact own
    · obtain ⟨pacer, records⟩ := others q hq
      rw [pacer, records]
      exact h.pending q
  quiet q := by
    rcases eq_or_ne q p with rfl | hq
    · exact quiet
    · rw [(others q hq).1]
      exact h.quiet q

/-- The records of one pacer leave, and its CROSS_PENDING clears. -/
theorem NoticeLaw.withdraw {s t : State} {p : PacerId} (h : NoticeLaw s)
    (room : t.notices.records.length ≤ Config.noticeRecords)
    (others : ∀ q, q ≠ p → t.pacer q = s.pacer q ∧ crossingRecords t q = crossingRecords s q)
    (gone : crossingRecords t p = 0) (clear : (t.pacer p).crossPending = false) : NoticeLaw t :=
  h.recount room others (by rw [gone, clear]; rfl) fun _ => clear

theorem removeCrossing_noticeLaw {s : State} (p : PacerId) (h : NoticeLaw s) : NoticeLaw (s.removeCrossing p) := by
  refine h.withdraw (p := p) ((List.length_filter_le _ _).trans h.room) (fun q hq => ⟨?_, ?_⟩) ?_ ?_
  · rw [removeCrossing_pacer, if_neg hq]
  · rw [crossingRecords_removeCrossing, if_neg hq]
  · rw [crossingRecords_removeCrossing, if_pos rfl]
  · rw [removeCrossing_pacer, if_pos rfl]

theorem withdrawCrossing_noticeLaw {s : State} (p : PacerId) (h : NoticeLaw s) : NoticeLaw (withdrawCrossing p s) := by
  unfold withdrawCrossing
  split
  · exact removeCrossing_noticeLaw p h
  · exact h

/-- After the withdrawal nothing is pending of the pacer (R133). -/
theorem withdrawCrossing_clear (p : PacerId) (s : State) : ((withdrawCrossing p s).pacer p).crossPending = false := by
  unfold withdrawCrossing
  split
  · rw [removeCrossing_pacer, if_pos rfl]
  · rename_i hp
    exact Bool.eq_false_iff.mpr hp

/-- A crossing enters its record with CROSS_PENDING, and is the one record of its pacer (R132). -/
theorem enterCrossing_noticeLaw {b : NoticeBody} {p : PacerId} {s : State} (h : NoticeLaw s)
    (hb : b.crossingOf = some p) (ha : adapts (s.pacer p) = true) (clear : (s.pacer p).crossPending = false)
    (room : s.notices.records.length < 32) :
    NoticeLaw ((s.enterNotice b).setPacer p { s.pacer p with crossPending := true }) := by
  have counted (q : PacerId) :
      crossingRecords ((s.enterNotice b).setPacer p { s.pacer p with crossPending := true }) q =
        crossingRecords s q + if some p = some q then 1 else 0 := hb ▸ crossingRecords_enterNotice b q s
  refine h.recount (p := p) (enterNotice_room room) (fun q hq => ⟨?_, ?_⟩) ?_ ?_
  · rw [State.setPacer_pacer_ne _ hq, enterNotice_pacer]
  · rw [counted, if_neg fun e => hq (Option.some.inj e).symm]
    rfl
  · rw [counted, h.pending p, clear, State.setPacer_pacer_self]
    simp
  · rw [State.setPacer_pacer_self]
    intro hq
    exact absurd (ha.symm.trans hq) nofun

/-- A crossing of a pacer in LIVE or PAUSED keeps the law, whatever becomes of it (R132). -/
theorem crossing_noticeLaw {b : NoticeBody} {p : PacerId} {s : State} (h : NoticeLaw s)
    (hb : b.crossingOf = some p) (ha : adapts (s.pacer p) = true) : NoticeLaw (crossing p b s) := by
  by_cases enabled : s.noticeEnable b.kind = true
  · cases pending : (s.pacer p).crossPending with
    | true =>
      rw [crossing_cancels enabled pending]
      exact removeCrossing_noticeLaw p h
    | false =>
      by_cases room : s.notices.records.length < 32
      · rw [crossing_entered enabled pending room]
        exact enterCrossing_noticeLaw h hb ha pending room
      · rw [crossing_lost enabled pending (not_lt.mp room)]
        exact h.frame (loseNotice_pending s)
  · rw [crossing_disabled (Bool.eq_false_iff.mpr enabled)]
    exact h

/-- A change of an adapting pacer's context, and then the crossing check (R35). -/
theorem NoticeLaw.check {s : State} {p : PacerId} {c : Pacer} (h : NoticeLaw s) (hc : (s.pacer p).KeepsPending c)
    (ha : adapts c = true) : NoticeLaw (crossingCheck p (s.setPacer p c)) := by
  have changed : NoticeLaw (s.setPacer p c) := h.frame (.of_setPacer rfl hc)
  have moved (x : Bool) :
      NoticeLaw ((s.setPacer p c).setPacer p { (s.setPacer p c).pacer p with slow := x }) :=
    changed.frame (.of_setPacer rfl (.of_state rfl rfl))
  have adapting (x : Bool) :
      adapts (((s.setPacer p c).setPacer p { (s.setPacer p c).pacer p with slow := x }).pacer p) = true := by
    rw [State.setPacer_pacer_self, State.setPacer_pacer_self]
    exact ha
  cases hr : crossingResult ((s.setPacer p c).pacer p) with
  | goesSlow =>
    rw [crossingCheck_goesSlow hr]
    exact crossing_noticeLaw (moved true) rfl (adapting true)
  | recovers =>
    rw [crossingCheck_recovers hr]
    exact crossing_noticeLaw (moved false) rfl (adapting false)
  | stays =>
    rw [crossingCheck_stays hr]
    exact changed

/-! ### Pops (R134) -/

/-- The oldest record leaves; a crossing takes its pacer's CROSS_PENDING with it, which was set (R134). -/
theorem popNotice_noticeLaw {s : State} (h : NoticeLaw s) : NoticeLaw (popNotice s) := by
  cases hr : s.notices.records with
  | nil =>
    rw [popNotice_nil hr]
    exact h.frame (.keep rfl)
  | cons r rest =>
    have room : rest.length ≤ Config.noticeRecords := by
      have whole := h.room
      rw [hr, List.length_cons] at whole
      exact Nat.le_of_succ_le whole
    have counted (q : PacerId) :
        crossingRecords s q =
          rest.countP (fun x => x.body.crossingOf == some q) + if r.body.crossingOf = some q then 1 else 0 := by
      rw [crossingRecords, hr, List.countP_cons]
      simp only [beq_iff_eq]
    cases hb : r.body.crossingOf with
    | none =>
      rw [popNotice_plain hr hb]
      refine ⟨room, fun q => ?_, h.quiet⟩
      rw [hb] at counted
      exact (counted q).symm.trans (h.pending q)
    | some p =>
      rw [hb] at counted
      rw [popNotice_crossing hr hb]
      have gone : rest.countP (fun x => x.body.crossingOf == some p) = 0 := by
        have one := h.pending p
        rw [counted, if_pos rfl] at one
        split at one <;> omega
      refine h.withdraw (p := p) room (fun q hq => ⟨s.setPacer_pacer_ne hq _, ?_⟩) gone ?_
      · rw [counted, if_neg fun e => hq (Option.some.inj e).symm]
        rfl
      · exact congrArg Pacer.crossPending (s.setPacer_pacer_self p _)

end Sys2Proof.Machine
end

section
/-!
PROOFS. Every step keeps the notice-queue law: the operations, the management requests and the events.
-/

namespace Sys2Proof.Machine

/-! ### Adaptation -/

theorem windowResponse_noticeLaw {s : State} {p : PacerId} (marked : Bool) (h : NoticeLaw s)
    (ha : adapts (s.pacer p) = true) : NoticeLaw (windowResponse p marked s) := by
  by_cases hw : (s.pacer p).winCount + 1 = (s.pacer p).cfg.window.toNat
  · rw [windowResponse_closing marked hw, windowRestart_windowVerdict]
    exact h.check (.of_state rfl rfl) ha
  · rw [windowResponse_open marked hw]
    exact h.frame (.of_setPacer rfl (.of_state rfl rfl))

/-- Feedback is counted in LIVE and PAUSED alone, where a crossing may be pending (R22). -/
theorem countedResponse_noticeLaw {s : State} (p : PacerId) (m : Pressure) (h : NoticeLaw s) :
    NoticeLaw (countedResponse p m s) := by
  unfold countedResponse
  split
  · rename_i ha
    cases m with
    | clear => exact windowResponse_noticeLaw false h ha
    | light => exact windowResponse_noticeLaw true h ha
    | heavy => exact h.check (.of_state rfl rfl) ha
    | halt => exact h.check (.of_state rfl rfl) ha
  · exact h

theorem timeoutHalt_noticeLaw {s : State} (p : PacerId) (h : NoticeLaw s) : NoticeLaw (timeoutHalt p s) := by
  unfold timeoutHalt
  split
  · rename_i ha
    exact h.check (.of_state rfl rfl) ha
  · exact h

theorem afterIdleRule_noticeLaw {s : State} (p : PacerId) (h : NoticeLaw s) : NoticeLaw (afterIdleRule p s) := by
  unfold afterIdleRule
  split
  · rename_i hi
    exact h.check (.of_state rfl rfl) (by simp [adapts, hi.1])
  · exact h

/-! ### The calendar, drains and queues -/

theorem settleCalendar_pending (p : PacerId) (s : State) : PendingFrame s (settleCalendar p s) := by
  unfold settleCalendar
  split <;> exact .keep rfl

theorem startSweep_pending (s : State) : PendingFrame s (startSweep s) := by
  unfold startSweep
  split <;> exact .keep rfl

/-- A pacer whose drain completes did not adapt before (R15). -/
theorem drainCheck_pending (p : PacerId) (s : State) : PendingFrame s (drainCheck p s) := by
  unfold drainCheck
  split
  · rename_i hd
    have drains : (s.pacer p).state = .draining := ((drained_iff _).mp hd).1
    have swept : PendingFrame s (s.modPacer p fun c => { c with state := .sweeping, retireMode := none }) :=
      .of_setPacer rfl ⟨rfl, fun _ ha => by simp [adapts, drains] at ha⟩
    exact swept.trans ((startSweep_pending _).after rfl)
  · exact .refl s

theorem drainCheckAll_pending (l : List PacerId) (s : State) : PendingFrame s (drainCheckAll l s) := by
  induction l generalizing s with
  | nil => exact .refl s
  | cons p rest ih => exact (drainCheck_pending p s).trans (ih _)

theorem completeDrains_pending (s : State) : PendingFrame s (completeDrains s) :=
  (drainCheckAll_pending _ _).after rfl

theorem flightFell_pending (p : PacerId) (s : State) : PendingFrame s (flightFell p s) :=
  (settleCalendar_pending p s).trans (drainCheck_pending p _)

theorem lowerFlight_pending (p : PacerId) (s : State) : PendingFrame s (lowerFlight p s) :=
  .of_setPacer rfl (.of_state rfl rfl)

theorem returnResponses_pending (s : State) (n : Nat) : PendingFrame s (s.returnResponses n) := by
  rw [State.returnResponses_eq]
  exact .keep rfl

theorem removeHead_pending (p : PacerId) (s : State) : PendingFrame s (removeHead p s) := by
  cases hq : s.queue p with
  | nil =>
    rw [removeHead_nil p s hq]
    exact .refl s
  | cons x rest =>
    rw [removeHead_cons p s x rest hq]
    exact .of_setPacer rfl (.of_state rfl rfl)

theorem discardFrom_pending (p : PacerId) (l : List HoldSlot) (s : State) : PendingFrame s (discardFrom p l s) := by
  induction l generalizing s with
  | nil => exact .refl s
  | cons x rest ih =>
    unfold discardFrom
    split
    · exact (removeHead_pending p s).trans ((ih ((removeHead p s).bump .postedDrops)).after rfl)
    · split
      · exact .refl s
      · exact .keep rfl

theorem processDiscard_pending (p : PacerId) (s : State) : PendingFrame s (processDiscard p s) :=
  (discardFrom_pending p _ s).trans (drainCheck_pending p _)

/-! ### Commands -/

theorem alertDue_pending (s : State) : PendingFrame s s.alertDue :=
  .keep (Prod.ext s.alertDue_records s.alertDue_frame.pacers)

theorem rearmAlert_pending (s : State) : PendingFrame s (rearmAlert s) := by
  unfold rearmAlert
  dsimp only
  split
  · exact (alertDue_pending _).after rfl
  · exact .keep rfl

theorem writeEnables_pending (v : BitVec 8) (s : State) : PendingFrame s (writeEnables v s) := by
  rw [writeEnables_eq]
  split
  · exact .keep rfl
  · split
    · exact (alertDue_pending _).after rfl
    · exact .keep rfl

/-- The withdrawal leaves nothing pending of a pacer that enters DRAINING (R12, R133). -/
theorem retires_noticeLaw {s : State} (p : PacerId) (m : RetireMode) (h : NoticeLaw s) :
    NoticeLaw ((withdrawCrossing p s).modPacer p (drainingPacer m)) :=
  have clear := withdrawCrossing_clear p s
  (withdrawCrossing_noticeLaw p h).frame (.of_setPacer rfl (.of_clear clear clear))

/-- Of the commands, START and SET_SPACING make the crossing check, each of a pacer that adapts by then (R8, R11). -/
theorem CommandEffect.noticeLaw {s t : State} (e : CommandEffect s t) (h : NoticeLaw s) : NoticeLaw t := by
  cases e with
  | none => exact h
  | rearms => exact h.frame (rearmAlert_pending s)
  | @stages p state =>
    have clear := h.quiet p (by simp [adapts, state])
    exact h.frame (.of_setPacer rfl (.of_clear clear rfl))
  | @starts p =>
    have started : (s.pacer p).KeepsPending (startedPacer s.clock.pacingTime (s.pacer p)) := ⟨rfl, fun _ _ => rfl⟩
    exact (h.check started rfl).frame (settleCalendar_pending p _)
  | pauses => exact h.frame (.of_setPacer rfl ⟨rfl, fun _ _ => rfl⟩)
  | @resumes p =>
    have resumed : (s.pacer p).KeepsPending (resumedPacer s.clock.pacingTime (s.pacer p)) := ⟨rfl, fun _ _ => rfl⟩
    exact (h.frame (.of_setPacer rfl resumed)).frame (settleCalendar_pending p _)
  | @flushes p =>
    exact (retires_noticeLaw p .flush h).frame ((settleCalendar_pending p _).trans (drainCheck_pending p _))
  | @discards p => exact (retires_noticeLaw p .discard h).frame ((processDiscard_pending p _).after rfl)
  | @turns p state =>
    have turned : PendingFrame s (s.modPacer p (drainingPacer .discard)) := .of_setPacer rfl (.of_state rfl state.symm)
    exact h.frame (turned.trans ((processDiscard_pending p _).after rfl))
  | spaces => exact h.frame (.of_setPacer rfl (.of_state rfl rfl))
  | respaces v state => exact h.check (.of_state rfl rfl) state

/-! ### Management requests -/

theorem RequestEffect.noticeLaw {s t : State} (e : RequestEffect s t) (h : NoticeLaw s) : NoticeLaw t := by
  cases e with
  | denies => exact plainNotice_noticeLaw (h.frame (.keep rfl)) rfl
  | pops => exact popNotice_noticeLaw h
  | setsEnables x => exact h.frame (writeEnables_pending x s)
  | configures => exact h.frame (.of_setPacer rfl (.of_state rfl rfl))
  | rewrites => exact h.frame (.of_setPacer rfl (.of_state rfl rfl))
  | @rewritesAndChecks p w v state => exact h.check (.of_state rfl rfl) (by simp [rewritten, adapts, state])
  | commands last he => exact (he.noticeLaw h).frame (.keep rfl)
  | _ => exact h.frame (.keep rfl)

theorem freeMgmtHead_pending (s : State) : PendingFrame s (freeMgmtHead s) := by
  unfold freeMgmtHead
  split
  · exact .refl s
  · rw [State.returnMgmt_eq]
    exact .keep rfl

theorem agentLook_noticeLaw {s : State} (h : NoticeLaw s) : NoticeLaw (agentLook s) :=
  agentLook_induction (fun s hs => hs.frame ((freeMgmtHead_pending s).trans (.keep rfl)))
    (fun pkt s hs => ((judgeRequest_effect pkt s).noticeLaw hs).frame (.keep rfl)) h

/-! ### Requests and responses -/

theorem enqueue_pending (p : PacerId) (pkt : Packet) (s : State) : PendingFrame s (enqueue p pkt s) := by
  have joins : PendingFrame s (joinQueue p pkt s) := .of_setPacer rfl (.of_state rfl rfl)
  unfold enqueue
  dsimp only
  split
  · exact joins.trans (.of_setPacer rfl (.of_state rfl rfl))
  · exact joins

theorem countRefusal_pending (p : Option PacerId) (s : State) : PendingFrame s (countRefusal p s) := by
  cases p with
  | none => exact .refl s
  | some p => exact .of_setPacer rfl (.of_state rfl rfl)

theorem refuseArrival_pending (pkt : Packet) (cause : RefusalCause) (p : Option PacerId) (s : State) :
    PendingFrame s (refuseArrival pkt cause p s) := by
  have counted : PendingFrame s (countRefusal p (s.bump cause.counter)) := (countRefusal_pending p _).after rfl
  unfold refuseArrival
  dsimp only
  split
  · rw [State.returnTraffic_eq]
    exact counted.trans (.keep rfl)
  · exact counted.trans (.keep rfl)

theorem intake_pending (pkt : Packet) (s : State) : PendingFrame s (intake pkt s) := by
  unfold intake
  cases judgeArrival s pkt.header with
  | admitted p => exact enqueue_pending p pkt s
  | refused cause p => exact refuseArrival_pending pkt cause p s

theorem matchedResponse_noticeLaw {s : State} (pkt : Packet) (n : EntryId) (h : NoticeLaw s) :
    NoticeLaw (matchedResponse pkt n s) := by
  have counted := countedResponse_noticeLaw (s.entry n).pacer (Pressure.ofCode pkt.header.pressure) h
  have lowered (x : State) : PendingFrame x ((lowerFlight (s.entry n).pacer x).setEntry n (releaseEntry (s.entry n))) :=
    (lowerFlight_pending _ x).trans (.keep rfl)
  unfold matchedResponse
  refine NoticeLaw.frame ?_ (flightFell_pending _ _)
  split
  · exact counted.frame (((lowered _).trans (returnResponses_pending _ 1)).trans (.keep rfl))
  · exact counted.frame ((lowered _).trans (.keep rfl))

theorem takeResponse_noticeLaw {s : State} (pkt : Packet) (h : NoticeLaw s) : NoticeLaw (takeResponse pkt s) := by
  unfold takeResponse
  cases responseFate s pkt with
  | stale => exact h.frame ((returnResponses_pending s 1).trans (.keep rfl))
  | late n =>
    have freed : PendingFrame s (s.setEntry n (lateEntry (s.entry n))) := .keep rfl
    exact h.frame ((freed.trans (returnResponses_pending _ 1)).trans (.keep rfl))
  | mismatch n => exact plainNotice_noticeLaw (h.frame ((returnResponses_pending s 1).trans (.keep rfl))) rfl
  | matched n => exact matchedResponse_noticeLaw pkt n h

theorem expireEntry_pending (n : EntryId) (s : State) : PendingFrame s (expireEntry n s) := by
  unfold expireEntry
  dsimp only
  split <;> exact .keep rfl

theorem expire_noticeLaw {s : State} (n : EntryId) (h : NoticeLaw s) : NoticeLaw (expire n s) := by
  have halted := timeoutHalt_noticeLaw (s.entry n).pacer (h.frame (lowerFlight_pending (s.entry n).pacer s))
  have noticed := plainNotice_noticeLaw (b := .respTimeout (s.entry n).pacer (s.entry n).tag (s.entry n).upTxid)
    (halted.frame (PendingFrame.keep (t := State.bump _ .timeouts) rfl)) rfl
  exact noticed.frame ((expireEntry_pending n _).trans (flightFell_pending _ _))

theorem sendRequest_pending (p : PacerId) (req : Packet) (s : State) : PendingFrame s (sendRequest p req s) := by
  unfold sendRequest
  split
  · exact .keep rfl
  · split
    · exact .of_setPacer rfl (.of_state rfl rfl)
    · exact .refl s

theorem depart_noticeLaw {s : State} (p : PacerId) (req : Packet) (h : NoticeLaw s) : NoticeLaw (depart p req s) := by
  have sent (x : State) : PendingFrame x (sentHead p req x) :=
    ((removeHead_pending p x).trans (sendRequest_pending p req _)).trans (.of_setPacer rfl (.of_state rfl rfl))
  rw [depart_eq]
  exact (afterIdleRule_noticeLaw p h).frame
    (((sent _).trans (settleCalendar_pending p _)).trans (drainCheck_pending p _))

theorem releaseAborted_pending (p : PacerId) (s : State) : PendingFrame s (releaseAborted p s) := by
  have checked : PendingFrame s (drainCheck p ((removeHead p s).bump .aborted)) :=
    (removeHead_pending p s).trans ((drainCheck_pending p _).after rfl)
  unfold releaseAborted
  dsimp only
  split
  · exact checked.trans (processDiscard_pending p _)
  · exact checked

theorem releaseMgmt_noticeLaw {s : State} (h : NoticeLaw s) : NoticeLaw (releaseMgmt s) :=
  have freed : NoticeLaw { freeMgmtHead s with agent := { (freeMgmtHead s).agent with state := .ready } } :=
    h.frame ((freeMgmtHead_pending s).trans (.keep rfl))
  agentLook_noticeLaw freed

theorem placeItem_noticeLaw {s : State} (i : ReplyItem) (rest : List ReplyItem) (pkt : Packet) (h : NoticeLaw s) :
    NoticeLaw (placeItem i rest pkt s) := by
  have taken : NoticeLaw (itemTaken pkt rest s) := h.frame (.keep rfl)
  rw [placeItem_eq]
  unfold releaseResource
  cases i with
  | refusal req cause p =>
    dsimp only
    rw [State.returnTraffic_eq]
    exact taken.frame (.keep rfl)
  | aborted p => exact taken.frame (releaseAborted_pending p _)
  | givenUp cause n => exact taken.frame (.keep rfl)
  | mgmt st d b => exact releaseMgmt_noticeLaw taken

theorem sendResponse_pending (r : BufferedResponse) (rest : List BufferedResponse) (s : State) :
    PendingFrame s (sendResponse r rest s) := by
  unfold sendResponse
  dsimp only
  split
  · exact (returnResponses_pending _ 1).after rfl
  · exact .keep rfl

/-! ### The ports -/

theorem setLink_pending (s : State) (p : PortId) (l : Link) : PendingFrame s (s.setLink p l) := by
  cases p <;> exact .keep rfl

theorem hand_pending (p : PortId) (pkt : Packet) (s : State) : PendingFrame s (s.hand p pkt) := by
  cases p <;> exact .keep rfl

theorem sendInit_pending (p : PortId) (s : State) : PendingFrame s (sendInit p s) := by
  cases p <;> exact .keep rfl

theorem enterInitWait_pending (p : PortId) (s : State) : PendingFrame s (enterInitWait p s) :=
  (setLink_pending s p _).trans (sendInit_pending p _)

theorem creditSendOnce_pending (which : CreditReturn) (s : State) : PendingFrame s (creditSendOnce which s) := by
  cases which <;> (unfold creditSendOnce; dsimp only; split <;> exact .keep rfl)

theorem creditSendAll_pending (which : CreditReturn) (fuel : Nat) (s : State) :
    PendingFrame s (creditSendAll which fuel s) := by
  induction fuel generalizing s with
  | zero => exact .refl s
  | succ n ih => exact (creditSendOnce_pending which s).trans (ih _)

theorem sendReturns_pending (p : PortId) (s : State) : PendingFrame s (sendReturns p s) := by
  cases p with
  | i => exact (creditSendAll_pending .traffic _ s).trans (creditSendAll_pending .mgmt _ _)
  | t => exact creditSendAll_pending .response _ s

/-- A pending ALERT goes out with the number of records, which it leaves as they are (R136). -/
theorem sendPendingAlert_pending (p : PortId) (s : State) : PendingFrame s (sendPendingAlert p s) := by
  cases p with
  | i => unfold sendPendingAlert; dsimp only; split <;> exact .keep rfl
  | t => exact .refl s

theorem recordGrant_pending (p : PortId) (n : Nat) (s : State) : PendingFrame s (recordGrant p n s) := by
  cases p <;> exact .keep rfl

theorem takeCredit_pending (p : PortId) (n : Nat) (s : State) : PendingFrame s (takeCredit p n s) := by
  cases p <;> exact .keep rfl

theorem bringUp_pending (p : PortId) (h : Header) (s : State) : PendingFrame s (bringUp p h s) :=
  (((recordGrant_pending p _ s).trans (setLink_pending _ p _)).trans (sendReturns_pending p _)).trans
    (sendPendingAlert_pending p _)

/-! ### Link resets -/

theorem dropResponses_pending (s : State) : PendingFrame s (dropResponses s) :=
  (returnResponses_pending s _).trans (.keep rfl)

theorem resetAlert_pending (s : State) : PendingFrame s (resetAlert s) := by
  unfold resetAlert
  split <;> exact .keep rfl

theorem resetPortI_noticeLaw {s : State} (h : NoticeLaw s) : NoticeLaw (resetPortI s) :=
  plainNotice_noticeLaw (h.frame (.keep rfl)) rfl

theorem resetPortT_noticeLaw {s : State} (h : NoticeLaw s) : NoticeLaw (resetPortT s) :=
  plainNotice_noticeLaw (h.frame (.keep rfl)) rfl

/-- The blocks cleared at an I-port link reset, after its notice (R72, R107, R122, R157). -/
theorem clearedI_pending (s : State) : PendingFrame (resetPortI s) (clearedI s) := by
  have queues : PendingFrame (resetPortI s) (dropQueues (resetPortI s)) := .map rfl (fun _ => rfl) fun _ => rfl
  have stores (x : State) (o : Vector Entry 128) :
      PendingFrame x (dropRequests (dropResponses { x with outstanding := o })) := by
    have entries : PendingFrame x { x with outstanding := o } := .keep rfl
    exact (entries.trans (dropResponses_pending _)).trans (.keep rfl)
  exact queues.trans (stores _ _)

theorem clearedT_pending (s : State) : PendingFrame (resetPortT s) (clearedT s) :=
  .map (f := fun c => { c with flight := 0 }) rfl (fun _ => rfl) fun _ => rfl

theorem linkReset_noticeLaw (p : PortId) {s : State} (h : NoticeLaw s) : NoticeLaw (linkReset p s) := by
  cases p with
  | i =>
    rw [linkReset, linkResetI_eq]
    exact (resetPortI_noticeLaw h).frame
      (((clearedI_pending s).trans (completeDrains_pending _)).trans (resetAlert_pending _))
  | t =>
    rw [linkReset, linkResetT_eq]
    exact (resetPortT_noticeLaw h).frame ((clearedT_pending s).trans (completeDrains_pending _))

theorem faultSequence_noticeLaw (p : PortId) {s : State} (h : NoticeLaw s) : NoticeLaw (faultSequence p s) :=
  linkReset_noticeLaw p (h.frame ((setLink_pending s p _).trans (hand_pending p resetPacket _)))

theorem takeReset_noticeLaw (p : PortId) {s : State} (h : NoticeLaw s) : NoticeLaw (takeReset p s) := by
  unfold takeReset
  split
  · exact h
  · exact linkReset_noticeLaw p h
  · exact (linkReset_noticeLaw p (h.frame (setLink_pending s p _))).frame (enterInitWait_pending p _)
  · exact (linkReset_noticeLaw p h).frame (enterInitWait_pending p _)

/-! ### The Sweeper (R89, R90) -/

/-- A SWEEPING pacer has no crossing pending, so that it may become VACANT (R90, R133). -/
theorem endSweep_noticeLaw {s : State} {p : PacerId} (h : NoticeLaw s) (sweeping : (s.pacer p).state = .sweeping) :
    NoticeLaw (endSweep p s) := by
  have clear := h.quiet p (by simp [adapts, sweeping])
  have vacated : NoticeLaw (s.modPacer p fun c => { c with state := .vacant }) :=
    h.frame (.of_setPacer rfl (.of_clear clear clear))
  have noticed := plainNotice_noticeLaw (b := .retireDone p) vacated rfl
  have idle (x : State) : PendingFrame x (x.setCursor .idle) := .keep rfl
  exact noticed.frame ((idle _).trans (startSweep_pending _))

/-- The pacer whose entries are visited is SWEEPING (R88). -/
theorem TableLaw.sweeping_of_visited {s : State} (h : TableLaw s) {p : PacerId} {k : Tag}
    (hc : s.sweeper.cursor = .visit p k) : (s.pacer p).state = .sweeping :=
  (h.pacers p).sweeping.mpr (by simp [sweepList, hc])

theorem visitEntry_noticeLaw {s : State} {p : PacerId} {k : Tag} (ht : TableLaw s) (h : NoticeLaw s)
    (hc : s.sweeper.cursor = .visit p k) : NoticeLaw (visitEntry p k s) := by
  have sweeping := ht.sweeping_of_visited hc
  unfold visitEntry
  dsimp only
  split
  · exact endSweep_noticeLaw (h.frame (.keep rfl)) sweeping
  · exact h.frame (.keep rfl)

/-! ### The step -/

theorem Event.noticeLaw {s t : State} (e : Event s t) (ht : TableLaw s) (h : NoticeLaw s) : NoticeLaw t := by
  cases e with
  | powersOn w g =>
    exact (powerOn_noticeLaw true w g).frame
      (((enterInitWait_pending .i _).trans (enterInitWait_pending .t _)).trans (.keep rfl))
  | traffic => exact h.frame ((intake_pending _ _).after rfl)
  | mgmt => exact agentLook_noticeLaw (h.frame (.keep rfl))
  | response => exact takeResponse_noticeLaw _ (h.frame (.keep rfl))
  | credit => exact h.frame (takeCredit_pending _ _ s)
  | bringsUp => exact h.frame (bringUp_pending _ _ s)
  | faults => exact faultSequence_noticeLaw _ h
  | takesReset => exact takeReset_noticeLaw _ h
  | resetSent => exact h.frame ((setLink_pending s _ _).trans (enterInitWait_pending _ _))
  | resends => exact h.frame (sendInit_pending _ s)
  | sendsCredit which => exact h.frame (creditSendOnce_pending which s)
  | departs => exact depart_noticeLaw _ _ h
  | expires => exact expire_noticeLaw _ h
  | sweepsEntry cursor => exact visitEntry_noticeLaw ht h cursor
  | places => exact placeItem_noticeLaw _ _ _ h
  | sends => exact h.frame (sendResponse_pending _ _ s)
  | _ => exact h.frame (.keep rfl)

/-- Settles O6: every step is an event, and every event keeps the law; the table law says that the pacer whose sweep
ends is SWEEPING, and so has no crossing pending when it becomes VACANT. -/
theorem everyStepKeepsTheNoticeLaw : Obligations.Every_step_keeps_the_notice_law := by
  intro s t ht hs hstep
  obtain ⟨rest, e⟩ := step_event hstep
  exact e.noticeLaw (ht.frame (.of_eq rfl rfl rfl rfl rfl rfl)) (hs.frame (.keep rfl))

end Sys2Proof.Machine
end

section
/-!
PROOFS. Every step keeps the agent law (R45, R143, R148).

The agent's part of the law has two cases: READY with an empty queue and no item, ANSWERING with a request and one item.
In the middle of an event the three differ from both, so `AgentAt` names them. Whatever an event does elsewhere leaves
`agentReads` as they were.
-/

namespace Sys2Proof.Machine

/-! ### The clock (R44, R45, R95) -/

/-- The tick in progress has a length of TICK_LEN's range and has not run out, nor has the microsecond (R45, R95). -/
structure Clock.InRange (c : Clock) : Prop where
  tickSpan : 5 ≤ c.tickSpan ∧ c.tickSpan ≤ 1280
  tickPast : c.tickPast < c.tickSpan
  unitsPast : c.unitsPast < 250

/-- The next tick has a TICK_LEN in its range, and none of it has passed (R45). -/
theorem Clock.tick_inRange (c : Clock) {tickLen : BitVec 16} (range : 5 ≤ tickLen.toNat ∧ tickLen.toNat ≤ 1280) :
    (c.tick tickLen).InRange where
  tickSpan := range
  tickPast := Nat.lt_of_lt_of_le (Nat.succ_pos 4) range.1
  unitsPast := (c.pass_units c.tickLeft).2

/-- The clock runs to the next microsecond only where the tick in progress lasts beyond it (R44). -/
theorem Clock.InRange.run {c : Clock} (h : c.InRange) {tickLen : BitVec 16}
    (range : 5 ≤ tickLen.toNat ∧ tickLen.toNat ≤ 1280) : (c.run tickLen).InRange := by
  rcases c.run_cases tickLen with ⟨within, hrun⟩ | ⟨-, hrun⟩
  · rw [hrun]
    exact ⟨h.tickSpan, Nat.add_lt_of_lt_sub' within, (c.pass_units _).2⟩
  · rw [hrun]
    exact c.tick_inRange range

/-! ### The law in the middle of an event -/

/-- The agent is in this state with this queue and this many items of its own in the Reply List; and what the law says
of manager list entry 0, TICK_LEN and the clock holds. -/
structure AgentAt (a : AgentState) (q : List Packet) (n : Nat) (s : State) : Prop where
  state : s.agent.state = a
  queue : s.mgmtQueue = q
  items : s.replies.countP ReplyItem.isMgmt = n
  primary : (s.manager 0).valid = true
  tickLen : 5 ≤ s.agent.tickLen.toNat ∧ s.agent.tickLen.toNat ≤ 1280
  clock : s.clock.InRange

section Law

variable {a : AgentState} {q : List Packet} {n : Nat} {s t : State}

theorem AgentAt.law_of_ready (h : AgentAt .ready [] 0 s) : AgentLaw s where
  ready _ := h.queue
  answering ha := nomatch h.state.symm.trans ha
  item := by rw [h.items, h.state]; rfl
  primary := h.primary
  tickLen := h.tickLen
  tickSpan := h.clock.tickSpan
  tickPast := h.clock.tickPast
  unitsPast := h.clock.unitsPast

theorem AgentAt.law_of_answering {req : Packet} {rest : List Packet} (h : AgentAt .answering (req :: rest) 1 s) :
    AgentLaw s where
  ready hr := nomatch h.state.symm.trans hr
  answering _ := by rw [h.queue]; exact List.cons_ne_nil req rest
  item := by rw [h.items, h.state]; rfl
  primary := h.primary
  tickLen := h.tickLen
  tickSpan := h.clock.tickSpan
  tickPast := h.clock.tickPast
  unitsPast := h.clock.unitsPast

/-- The two cases of the law: nothing waits for the agent, or it answers the request at the head (R143). -/
theorem AgentLaw.ready_or_answering (h : AgentLaw s) :
    AgentAt .ready [] 0 s ∨ ∃ req rest, AgentAt .answering (req :: rest) 1 s := by
  have clock : s.clock.InRange := ⟨h.tickSpan, h.tickPast, h.unitsPast⟩
  have item := h.item
  cases ha : s.agent.state with
  | ready =>
    rw [ha] at item
    exact .inl ⟨ha, h.ready ha, item, h.primary, h.tickLen, clock⟩
  | answering =>
    rw [ha] at item
    obtain ⟨req, rest, hq⟩ := List.exists_cons_of_ne_nil (h.answering ha)
    exact .inr ⟨req, rest, ha, hq, item, h.primary, h.tickLen, clock⟩

/-- What the law reads. -/
def State.agentReads (s : State) : (AgentState × List Packet × Nat) × ManagerEntry × BitVec 16 × Clock :=
  ((s.agent.state, s.mgmtQueue, s.replies.countP ReplyItem.isMgmt), s.manager 0, s.agent.tickLen, s.clock)

theorem AgentAt.congr (h : AgentAt a q n s) (reads : t.agentReads = s.agentReads) : AgentAt a q n t := by
  simp only [State.agentReads, Prod.mk.injEq] at reads
  obtain ⟨⟨state, queue, items⟩, primary, tickLen, clock⟩ := reads
  exact
    { state := state.trans h.state
      queue := queue.trans h.queue
      items := items.trans h.items
      primary := by rw [primary]; exact h.primary
      tickLen := by rw [tickLen]; exact h.tickLen
      clock := by rw [clock]; exact h.clock }

theorem AgentLaw.congr (h : AgentLaw s) (reads : t.agentReads = s.agentReads) : AgentLaw t := by
  rcases h.ready_or_answering with ready | ⟨req, rest, answering⟩
  · exact (ready.congr reads).law_of_ready
  · exact (answering.congr reads).law_of_answering

/-- The clock alone moves. -/
theorem AgentLaw.withClock (h : AgentLaw s) {c : Clock} (hc : c.InRange) : AgentLaw { s with clock := c } :=
  { h with tickSpan := hc.tickSpan, tickPast := hc.tickPast, unitsPast := hc.unitsPast }

/-! ### Notices, adaptation and the ports -/

theorem PortFrame.agentReads (f : PortFrame s t) : t.agentReads = s.agentReads := by
  have h := congrArg State.agentReads f
  exact h

theorem NoticeFrame.agentReads (f : NoticeFrame s t) : t.agentReads = s.agentReads := f.port.agentReads

theorem AdaptFrame.agentReads {p : PacerId} (f : AdaptFrame p s t) : t.agentReads = s.agentReads := by
  have h := congrArg State.agentReads f.rest
  exact h

end Law

end Sys2Proof.Machine
end

section
/-!
PROOFS. Every step keeps the agent law: the operations that leave what it reads as it was.
-/

namespace Sys2Proof.Machine

/-! ### Notices, the calendar, drains and queues -/

theorem plainNotice_agentReads (b : NoticeBody) (s : State) : (s.plainNotice b).agentReads = s.agentReads :=
  (s.plainNotice_frame b).agentReads

theorem alertDue_agentReads (s : State) : s.alertDue.agentReads = s.agentReads := s.alertDue_frame.agentReads

theorem crossingCheck_agentReads (p : PacerId) (s : State) : (crossingCheck p s).agentReads = s.agentReads :=
  (AdaptFrame.refl p s).check.agentReads

/-- No item but the agent's own counts as one of its answers. -/
theorem pushReply_agentReads {i : ReplyItem} (hi : i.isMgmt = false) (s : State) :
    (pushReply i s).agentReads = s.agentReads := by
  simp [State.agentReads, hi]

theorem returnResponses_agentReads (n : Nat) (s : State) : (s.returnResponses n).agentReads = s.agentReads := by
  rw [State.returnResponses_eq]
  rfl

theorem settleCalendar_agentReads (p : PacerId) (s : State) : (settleCalendar p s).agentReads = s.agentReads := by
  have h := congrArg State.agentReads (settleCalendar_frame p s)
  exact h

theorem startSweep_agentReads (s : State) : (startSweep s).agentReads = s.agentReads := by
  have h := congrArg State.agentReads (startSweep_frame s)
  exact h

theorem drainCheck_agentReads (p : PacerId) (s : State) : (drainCheck p s).agentReads = s.agentReads := by
  have h := congrArg State.agentReads (drainCheck_frame p s)
  exact h

theorem drainCheckAll_agentReads (l : List PacerId) (s : State) : (drainCheckAll l s).agentReads = s.agentReads := by
  induction l generalizing s with
  | nil => rfl
  | cons p rest ih => exact (ih _).trans (drainCheck_agentReads p s)

theorem completeDrains_agentReads (s : State) : (completeDrains s).agentReads = s.agentReads :=
  drainCheckAll_agentReads _ _

theorem flightFell_agentReads (p : PacerId) (s : State) : (flightFell p s).agentReads = s.agentReads :=
  (drainCheck_agentReads p _).trans (settleCalendar_agentReads p s)

theorem removeHead_agentReads (p : PacerId) (s : State) : (removeHead p s).agentReads = s.agentReads := by
  cases hq : s.queue p with
  | nil => rw [removeHead_nil p s hq]
  | cons x rest => rw [removeHead_cons p s x rest hq]; rfl

theorem discardFrom_agentReads (p : PacerId) (l : List HoldSlot) (s : State) :
    (discardFrom p l s).agentReads = s.agentReads := by
  induction l generalizing s with
  | nil => rfl
  | cons x rest ih =>
    unfold discardFrom
    split
    · exact (ih _).trans (removeHead_agentReads p s)
    · split
      · rfl
      · exact pushReply_agentReads (i := .aborted p) rfl _

theorem processDiscard_agentReads (p : PacerId) (s : State) : (processDiscard p s).agentReads = s.agentReads :=
  (drainCheck_agentReads p _).trans (discardFrom_agentReads p _ s)

/-! ### Commands, pops and the enables word -/

theorem withdrawCrossing_agentReads (p : PacerId) (s : State) : (withdrawCrossing p s).agentReads = s.agentReads := by
  unfold withdrawCrossing
  split <;> rfl

theorem rearmAlert_agentReads (s : State) : (rearmAlert s).agentReads = s.agentReads := by
  unfold rearmAlert
  dsimp only
  split
  · exact alertDue_agentReads _
  · rfl

theorem writeEnables_agentReads (v : BitVec 8) (s : State) : (writeEnables v s).agentReads = s.agentReads := by
  rw [writeEnables_eq]
  split
  · rfl
  · split
    · exact alertDue_agentReads _
    · rfl

theorem popNotice_agentReads (s : State) : (popNotice s).agentReads = s.agentReads := by
  unfold popNotice
  split
  · rfl
  · dsimp only
    split <;> rfl

theorem CommandEffect.agentReads {s t : State} (e : CommandEffect s t) : t.agentReads = s.agentReads := by
  cases e with
  | rearms => exact rearmAlert_agentReads s
  | @starts p => exact (settleCalendar_agentReads p _).trans (crossingCheck_agentReads p _)
  | @resumes p => exact settleCalendar_agentReads p _
  | @flushes p => exact (flightFell_agentReads p _).trans (withdrawCrossing_agentReads p s)
  | @discards p => exact (processDiscard_agentReads p _).trans (withdrawCrossing_agentReads p s)
  | @turns p => exact processDiscard_agentReads p _
  | @respaces p => exact crossingCheck_agentReads p _
  | _ => rfl

/-! ### Requests and responses -/

theorem countRefusal_agentReads (p : Option PacerId) (s : State) : (countRefusal p s).agentReads = s.agentReads := by
  cases p <;> rfl

theorem refuseArrival_agentReads (pkt : Packet) (cause : RefusalCause) (p : Option PacerId) (s : State) :
    (refuseArrival pkt cause p s).agentReads = s.agentReads := by
  unfold refuseArrival
  dsimp only
  split
  · rw [State.returnTraffic_eq]
    exact countRefusal_agentReads p _
  · exact (pushReply_agentReads (i := .refusal pkt cause p) rfl _).trans (countRefusal_agentReads p _)

theorem intake_agentReads (pkt : Packet) (s : State) : (intake pkt s).agentReads = s.agentReads := by
  unfold intake
  cases judgeArrival s pkt.header with
  | admitted p => simp only [enqueue_eq]; rfl
  | refused cause p => exact refuseArrival_agentReads pkt cause p s

theorem matchedResponse_agentReads (pkt : Packet) (n : EntryId) (s : State) :
    (matchedResponse pkt n s).agentReads = s.agentReads := by
  have counted := (countedResponse_frame (s.entry n).pacer (Pressure.ofCode pkt.header.pressure) s).agentReads
  have lowered (x : State) :
      ((lowerFlight (s.entry n).pacer x).setEntry n (releaseEntry (s.entry n))).agentReads = x.agentReads := rfl
  have discarded (x : State) : ((x.returnResponses 1).bump .orphanDiscards).agentReads = x.agentReads :=
    returnResponses_agentReads 1 x
  have forwarded (x : State) : (forward pkt (s.entry n).upTxid x).agentReads = x.agentReads := rfl
  unfold matchedResponse
  refine (flightFell_agentReads _ _).trans ?_
  split
  · exact ((discarded _).trans (lowered _)).trans counted
  · exact ((forwarded _).trans (lowered _)).trans counted

theorem takeResponse_agentReads (pkt : Packet) (s : State) : (takeResponse pkt s).agentReads = s.agentReads := by
  unfold takeResponse
  cases responseFate s pkt with
  | stale => exact returnResponses_agentReads 1 s
  | late n => exact returnResponses_agentReads 1 _
  | mismatch n => exact (plainNotice_agentReads _ _).trans (returnResponses_agentReads 1 s)
  | matched n => exact matchedResponse_agentReads pkt n s

theorem expireEntry_agentReads (n : EntryId) (s : State) : (expireEntry n s).agentReads = s.agentReads := by
  unfold expireEntry
  dsimp only
  split
  · rfl
  · exact pushReply_agentReads (i := .givenUp .timeout n) rfl _

theorem expire_agentReads (n : EntryId) (s : State) : (expire n s).agentReads = s.agentReads := by
  have lowered : (lowerFlight (s.entry n).pacer s).agentReads = s.agentReads := rfl
  have halted := (timeoutHalt_frame (s.entry n).pacer (lowerFlight (s.entry n).pacer s)).agentReads.trans lowered
  have noticed := (plainNotice_agentReads (.respTimeout (s.entry n).pacer (s.entry n).tag (s.entry n).upTxid)
    ((timeoutHalt (s.entry n).pacer (lowerFlight (s.entry n).pacer s)).bump .timeouts)).trans halted
  exact (flightFell_agentReads _ _).trans ((expireEntry_agentReads n _).trans noticed)

theorem sendRequest_agentReads (p : PacerId) (req : Packet) (s : State) :
    (sendRequest p req s).agentReads = s.agentReads := by
  unfold sendRequest
  split
  · rfl
  · split <;> rfl

theorem depart_agentReads (p : PacerId) (req : Packet) (s : State) : (depart p req s).agentReads = s.agentReads := by
  have sent (x : State) : (sentHead p req x).agentReads = x.agentReads :=
    (sendRequest_agentReads p req _).trans (removeHead_agentReads p x)
  rw [depart_eq]
  exact (flightFell_agentReads p _).trans ((sent _).trans (afterIdleRule_frame p s).agentReads)

/-! ### The Sweeper, the response path and the ports -/

theorem visitEntry_agentReads (p : PacerId) (k : Tag) (s : State) : (visitEntry p k s).agentReads = s.agentReads := by
  unfold visitEntry
  dsimp only
  split
  · exact (startSweep_agentReads _).trans (plainNotice_agentReads _ _)
  · rfl

theorem releaseAborted_agentReads (p : PacerId) (s : State) : (releaseAborted p s).agentReads = s.agentReads := by
  have checked : (drainCheck p ((removeHead p s).bump .aborted)).agentReads = s.agentReads :=
    (drainCheck_agentReads p _).trans (removeHead_agentReads p s)
  unfold releaseAborted
  dsimp only
  split
  · exact (processDiscard_agentReads p _).trans checked
  · exact checked

theorem sendResponse_agentReads (r : BufferedResponse) (rest : List BufferedResponse) (s : State) :
    (sendResponse r rest s).agentReads = s.agentReads := by
  rw [sendResponse_eq]
  rfl

theorem itemTaken_agentReads {s : State} {i : ReplyItem} {rest : List ReplyItem} (pkt : Packet)
    (hr : s.replies = i :: rest) (hi : i.isMgmt = false) : (itemTaken pkt rest s).agentReads = s.agentReads := by
  simp [State.agentReads, itemTaken, hr, hi, State.manager]

theorem resetPortI_agentReads (s : State) : (resetPortI s).agentReads = s.agentReads := plainNotice_agentReads _ _

theorem resetPortT_agentReads (s : State) : (resetPortT s).agentReads = s.agentReads := plainNotice_agentReads _ _

/-- The LINK_LOST items of a T-port link reset are none of the agent's (R106, R124). -/
theorem clearedT_agentReads (s : State) : (clearedT s).agentReads = (resetPortT s).agentReads := by
  have items : ((lostEntries (resetPortT s)).map (ReplyItem.givenUp .linkLost)).countP ReplyItem.isMgmt = 0 := by
    rw [List.countP_map]
    exact List.countP_eq_zero.mpr fun _ _ => Bool.false_ne_true
  have count : (clearedT s).replies.countP ReplyItem.isMgmt = (resetPortT s).replies.countP ReplyItem.isMgmt :=
    List.countP_append.trans (by rw [items, Nat.add_zero])
  rw [State.agentReads, count]
  rfl

end Sys2Proof.Machine
end

section
/-!
PROOFS. Every step keeps the agent law: the judging, taking, dropping and answering of management requests, and the
events.
-/

namespace Sys2Proof.Machine

section Events

variable {a : AgentState} {q : List Packet} {n : Nat} {s t : State}

/-! ### Management requests (R45, R143, R144, R147, R148) -/

/-- TICK_LEN is set within its range, and manager list entry 0 is never made invalid (R45, R148). -/
theorem RequestEffect.agentAt (e : RequestEffect s t) (h : AgentAt a q n s) : AgentAt a q n t := by
  cases e with
  | denies => exact h.congr (plainNotice_agentReads _ _)
  | pops => exact h.congr (popNotice_agentReads s)
  | setsTickLen _ range => exact { h with tickLen := range }
  | setsEnables x => exact h.congr (writeEnables_agentReads x s)
  | @setsManager i m valid =>
    have primary : ((s.setManager i m).manager 0).valid = true := by
      rw [State.setManager_manager]
      split
      · rename_i hi
        exact valid hi.symm
      · exact h.primary
    exact { h with primary := primary }
  | @rewritesAndChecks p => exact h.congr (crossingCheck_agentReads p _)
  | commands last effect => exact h.congr effect.agentReads
  | _ => exact h.congr rfl

/-- The taken request's item joins the Reply List, and the agent is ANSWERING (R143). -/
theorem AgentAt.takeRequest (pkt : Packet) (h : AgentAt a q n s) : AgentAt .answering q (n + 1) (takeRequest pkt s) :=
  have judged := (judgeRequest_effect pkt s).agentAt h
  have items : (Machine.takeRequest pkt s).replies.countP ReplyItem.isMgmt = n + 1 :=
    List.countP_append.trans (by rw [judged.items]; rfl)
  { state := rfl, queue := judged.queue, items := items, primary := judged.primary, tickLen := judged.tickLen,
    clock := judged.clock }

theorem AgentAt.freeMgmtHead {req : Packet} (h : AgentAt a (req :: q) n s) : AgentAt a q n (freeMgmtHead s) := by
  rw [freeMgmtHead_cons h.queue]
  exact { h with queue := rfl }

/-- A READY agent comes to the end of its queue over posted writes, or stops at the READ or WRITE it takes
(R143, R144). -/
theorem AgentAt.agentRun (h : AgentAt .ready q 0 s) : AgentLaw (agentRun q s) := by
  induction q generalizing s with
  | nil => exact h.law_of_ready
  | cons req rest ih =>
    unfold Machine.agentRun
    split
    · exact ih (h.freeMgmtHead.congr rfl)
    · exact (h.takeRequest req).law_of_answering

theorem AgentAt.agentLook_ready (h : AgentAt .ready q 0 s) : AgentLaw (agentLook s) := by
  rw [agentLook, h.state, h.queue]
  exact h.agentRun

/-- A request that joins the queue is the READY agent's next, and waits behind the one that is answered (R143). -/
theorem AgentLaw.mgmtJoin (pkt : Packet) (h : AgentLaw s) : AgentLaw (mgmtJoin pkt s) := by
  rcases h.ready_or_answering with ready | ⟨req, rest, answering⟩
  · have joined : AgentAt .ready [pkt] 0 { s with mgmtQueue := s.mgmtQueue ++ [pkt] } :=
      { ready with queue := by rw [ready.queue]; rfl }
    exact joined.agentLook_ready
  · rw [mgmtJoin_answering answering.state]
    have joined : AgentAt .answering (req :: (rest ++ [pkt])) 1 { s with mgmtQueue := s.mgmtQueue ++ [pkt] } :=
      { answering with queue := by rw [answering.queue]; rfl }
    exact joined.law_of_answering

/-! ### The placement of items (R119, R120) -/

/-- The answered request leaves with the agent's one item, and the agent goes on READY (R120, R143). -/
theorem placeMgmt_agentLaw {i : ReplyItem} {rest : List ReplyItem} (pkt : Packet) (h : AgentLaw s)
    (hr : s.replies = i :: rest) (hi : i.isMgmt = true) : AgentLaw (releaseMgmt (itemTaken pkt rest s)) := by
  have counted : s.replies.countP ReplyItem.isMgmt = rest.countP ReplyItem.isMgmt + 1 := by
    rw [hr, List.countP_cons_of_pos hi]
  rcases h.ready_or_answering with ready | ⟨req, waiting, answering⟩
  · exact absurd (ready.items.symm.trans counted) (Nat.succ_ne_zero _).symm
  · have taken : AgentAt .answering (req :: waiting) 0 (itemTaken pkt rest s) :=
      { answering with items := (Nat.succ.inj (answering.items.symm.trans counted)).symm }
    have freed := taken.freeMgmtHead
    have readied : AgentAt .ready waiting 0
        { freeMgmtHead (itemTaken pkt rest s) with
          agent := { (freeMgmtHead (itemTaken pkt rest s)).agent with state := .ready } } :=
      { freed with state := rfl }
    exact readied.agentLook_ready

theorem placeItem_agentLaw {i : ReplyItem} {rest : List ReplyItem} (pkt : Packet) (h : AgentLaw s)
    (hr : s.replies = i :: rest) : AgentLaw (placeItem i rest pkt s) := by
  rw [placeItem_eq]
  cases i with
  | refusal req cause p =>
    rw [releaseResource, State.returnTraffic_eq]
    exact (h.congr (itemTaken_agentReads pkt hr rfl)).congr rfl
  | aborted p => exact (h.congr (itemTaken_agentReads pkt hr rfl)).congr (releaseAborted_agentReads p _)
  | givenUp cause m => exact (h.congr (itemTaken_agentReads pkt hr rfl)).congr rfl
  | mgmt status detail beat => exact placeMgmt_agentLaw pkt h hr rfl

/-! ### Link resets (R106, R157, R170) -/

/-- An I-port link reset empties the Management Queue and the Reply List, and makes the agent READY (R122, R157). -/
theorem AgentAt.clearedI (h : AgentAt a q n s) : AgentAt .ready [] 0 (clearedI s) := by
  have port := h.congr (resetPortI_agentReads s)
  have dropped (x : State) (hx : AgentAt a q n x) : AgentAt .ready [] 0 (dropRequests (dropResponses x)) := by
    rw [dropResponses, State.returnResponses_eq]
    exact { hx with state := rfl, queue := rfl, items := rfl }
  exact dropped _ (port.congr rfl)

theorem linkReset_agentLaw (p : PortId) (h : AgentLaw s) : AgentLaw (linkReset p s) := by
  cases p with
  | i =>
    have cleared : AgentAt .ready [] 0 (clearedI s) := by
      rcases h.ready_or_answering with ready | ⟨req, rest, answering⟩
      · exact ready.clearedI
      · exact answering.clearedI
    rw [linkReset, linkResetI_eq]
    exact cleared.law_of_ready.congr ((resetAlert_frame _).agentReads.trans (completeDrains_agentReads _))
  | t =>
    rw [linkReset, linkResetT_eq]
    exact h.congr ((completeDrains_agentReads _).trans ((clearedT_agentReads s).trans (resetPortT_agentReads s)))

/-! ### The step -/

/-- While RESET_N is held low no time passes; after its release the clock keeps its range (R44, R45, R95). -/
theorem timePasses_inRange (h : AgentLaw s) : (timePasses s).InRange := by
  have clock : s.clock.InRange := ⟨h.tickSpan, h.tickPast, h.unitsPast⟩
  unfold timePasses
  split
  · exact clock.run h.tickLen
  · exact clock

theorem Event.agentLaw (e : Event s t) (h : AgentLaw s) : AgentLaw t := by
  have port (s t : State) (f : PortFrame s t) (hs : AgentLaw s) : AgentLaw t := hs.congr f.agentReads
  have reset (p : PortId) (s : State) (hs : AgentLaw s) : AgentLaw (linkReset p s) := linkReset_agentLaw p hs
  cases e with
  | idles => exact (h.withClock (timePasses_inRange h)).congr rfl
  | ticks => exact h.withClock (s.clock.tick_inRange h.tickLen)
  | powersOn w g =>
    have inits := (enterInitWait_frame .i (powerOn true w g)).trans (enterInitWait_frame .t _)
    exact (powerOn_agentLaw true w g).congr inits.agentReads
  | traffic => exact h.congr (intake_agentReads _ _)
  | @mgmt pkt =>
    have spent : AgentLaw { s with creditsI := { s.creditsI with givenMgmt := s.creditsI.givenMgmt - 1 } } :=
      h.congr rfl
    exact spent.mgmtJoin pkt
  | response => exact h.congr (takeResponse_agentReads _ _)
  | credit => exact port _ _ (takeCredit_frame _ _ s) h
  | bringsUp => exact port _ _ (bringUp_frame _ _ s) h
  | faults => exact faultSequence_induction port reset _ h
  | takesReset => exact takeReset_induction port reset _ h
  | resetSent => exact port _ _ ((setLink_frame s _ _).trans (enterInitWait_frame _ _)) h
  | resends => exact port _ _ (sendInit_frame _ s) h
  | sendsCredit which => exact port _ _ (creditSendOnce_frame which s) h
  | departs => exact h.congr (depart_agentReads _ _ s)
  | expires => exact h.congr (expire_agentReads _ s)
  | sweepsEntry => exact h.congr (visitEntry_agentReads _ _ s)
  | places oldest => exact placeItem_agentLaw _ h oldest
  | sends => exact h.congr (sendResponse_agentReads _ _ s)
  | _ => exact h.congr rfl

end Events

/-- Settles O9: every step is an event, and every event keeps the law. -/
theorem everyStepKeepsTheAgentLaw : Obligations.Every_step_keeps_the_agent_law := by
  intro s t hs hstep
  obtain ⟨rest, e⟩ := step_event hstep
  exact e.agentLaw (hs.congr rfl)

end Sys2Proof.Machine
end

section
/-!
PROOFS. The management window: the words at their offsets (section 12.3), and what each word reads as (R141, R149, R151,
R175).
-/

namespace Sys2Proof.Machine

/-! ### The words and their offsets (section 12.3) -/

/-- The word found, if any, stands at place `k` of the window. -/
def StandsAt (k : Nat) (found : Option WindowWord) : Prop := ∀ w, found = some w → w.offset = 8 * k

theorem StandsAt.none (k : Nat) : StandsAt k none := fun _ h => nomatch h

theorem StandsAt.some {k : Nat} {w : WindowWord} (h : w.offset = 8 * k) : StandsAt k (some w) := fun _ hw => by
  cases hw
  exact h

theorem StandsAt.ite {k : Nat} {c : Prop} [Decidable c] {x y : Option WindowWord} (hx : c → StandsAt k x)
    (hy : ¬c → StandsAt k y) : StandsAt k (if c then x else y) := by
  split
  · exact hx ‹c›
  · exact hy ‹¬c›

theorem StandsAt.dite {k : Nat} {c : Prop} [Decidable c] {x : c → Option WindowWord} {y : ¬c → Option WindowWord}
    (hx : ∀ h, StandsAt k (x h)) (hy : ∀ h, StandsAt k (y h)) : StandsAt k (if h : c then x h else y h) := by
  split
  · exact hx _
  · exact hy _

/-- The word found in a pacer's block stands at its place of the block (section 12.3.1). -/
theorem pacerWordAt_standsAt (p : PacerId) (j : Nat) : StandsAt (0x200 + 16 * p.val + j) (pacerWordAt p j) := by
  refine .dite (fun _ => .some ?_) fun _ => .dite (fun _ => .some ?_) fun _ => .none _
  · simp only [WindowWord.offset]
    omega
  · simp only [WindowWord.offset]
    omega

/-- The word found at an offset stands there (section 12.3). -/
theorem wordAt_standsAt (k : Nat) : StandsAt k (wordAt (8 * k)) := by
  have divided : 8 * k / 8 = k := Nat.mul_div_cancel_left k (by decide)
  simp only [wordAt, divided]
  refine .ite (fun identity => .some (by rw [identity]; rfl)) fun _ => ?_
  refine .ite (fun tickLen => .some (by rw [tickLen]; rfl)) fun _ => ?_
  refine .ite (fun respTimeout => .some (by rw [respTimeout]; rfl)) fun _ => ?_
  refine .ite (fun enables => .some (by rw [enables]; rfl)) fun _ => ?_
  refine .ite (fun defaultPacer => .some (by rw [defaultPacer]; rfl)) fun _ => ?_
  refine .ite (fun command => .some (by rw [command]; rfl)) fun _ => ?_
  refine .ite (fun pop => .some (by rw [pop]; rfl)) fun _ => ?_
  refine .ite (fun peek => .some (by rw [peek]; rfl)) fun _ => ?_
  refine .dite (fun manager => .some ?_) fun _ => .dite (fun counter => .some ?_) fun _ => ?_
  · simp only [WindowWord.offset]
    omega
  · simp only [WindowWord.offset]
    omega
  refine .dite (fun pacer => ?_) fun _ => .ite (fun tagMap => .some ?_) fun _ =>
    .dite (fun outstanding => .some ?_) fun _ => .none k
  · have block : 0x200 + 16 * ((k - 0x200) / 16) + (k - 0x200) % 16 = k := by omega
    have found := pacerWordAt_standsAt ⟨(k - 0x200) / 16, pacer.2⟩ ((k - 0x200) % 16)
    rwa [block] at found
  · simp only [WindowWord.offset, BitVec.toNat_ofNat]
    omega
  · simp only [WindowWord.offset]
    omega

/-- Settles O12: each word is found at its offset, and a word is found nowhere else. -/
theorem windowWordsAndOffsetsAgree : Obligations.Window_words_and_offsets_agree := by
  refine ⟨⟨rfl, rfl, rfl, rfl, rfl, rfl, rfl, rfl⟩, fun e => wordAt_offset (.manager e),
    fun c => wordAt_offset (.counter c), by decide, fun p w => ?_, fun t => ?_, fun n => ?_, wordAt_offset,
    wordAt_standsAt⟩
  · rw [Nat.mul_comm p.val]
    exact ⟨wordAt_offset (.config p w), wordAt_offset (.dynamic p w)⟩
  · rw [Nat.mul_comm t.toNat]
    exact wordAt_offset (.tagMap t)
  · rw [Nat.mul_comm n.val]
    exact wordAt_offset (.outstanding n)

/-! ### What the words read as (R141, R149, R175) -/

theorem place_zero_toNat {n : Nat} (x : BitVec n) (h : n ≤ 64) : (place x 0).toNat = x.toNat := by
  rw [place, BitVec.shiftLeft_zero, BitVec.toNat_setWidth]
  exact Nat.mod_eq_of_lt (x.isLt.trans_le (Nat.pow_le_pow_right (by decide) h))

/-- A word that is one field at bit 0 reads as that field (R141). -/
theorem wordBeat_place {n : Nat} (x : BitVec n) (h : n ≤ 64) : wordBeat (place x 0) = x.setWidth 256 := by
  rw [wordBeat, ← BitVec.ofNat_toNat, place_zero_toNat x h, BitVec.ofNat_toNat]

/-- A field at bit 0 and a flag at bit 15 above it read as their sum (R175). -/
theorem wordBeat_place_flag {n : Nat} (x : BitVec n) (b : Bool) (h : n ≤ 15) :
    wordBeat (place x 0 ||| placeFlag b 15) = BitVec.ofNat 256 (x.toNat + if b then 2 ^ 15 else 0) := by
  have low : x.toNat < 2 ^ 15 := x.isLt.trans_le (Nat.pow_le_pow_right (by decide) h)
  have sum : (place x 0 ||| placeFlag b 15).toNat = x.toNat + if b then 2 ^ 15 else 0 := by
    rw [BitVec.toNat_or, place_zero_toNat x (h.trans (by decide))]
    cases b with
    | false => exact Nat.or_zero _
    | true => exact (Nat.or_comm _ _).trans ((Nat.two_pow_add_eq_or_of_lt low 1).symm.trans (Nat.add_comm _ _))
  rw [wordBeat, ← BitVec.ofNat_toNat, sum]

/-- A word that names a pacer or none (R175). -/
theorem wordBeat_bindingWord (b : Option PacerId) : wordBeat (bindingWord b) = boundBeat b := by
  cases b with
  | none => rfl
  | some p =>
    have field : (BitVec.ofNat 8 p.val).toNat = p.val := Nat.mod_eq_of_lt (p.isLt.trans (by decide))
    rw [bindingWord, placeCount, wordBeat_place_flag _ _ (by decide), field]
    rfl

end Sys2Proof.Machine
end

section
/-!
PROOFS. Management requests: a request that waits, is dropped, read or refused (R142 to R146, R149), and the writes of
the manager list, RESP_TIMEOUT and the counters (R147, R151, R153).
-/

namespace Sys2Proof.Machine

/-! ### A request that waits or is dropped (R142 to R144) -/

/-- The state once a management request has come under its credit (R163). -/
def mgmtSpent (s : State) : State :=
  { s with creditsI := { s.creditsI with givenMgmt := s.creditsI.givenMgmt - 1 } }

theorem arrive_mgmtSpent {pkt : Packet} {s : State} (link : s.linkI.state = .up) (credit : 0 < s.creditsI.givenMgmt)
    (request : pkt.isRequestOf classMgmt = true) : arrive .i pkt true s = mgmtJoin pkt (mgmtSpent s) :=
  arrive_mgmt link credit request

/-- A READY agent with nothing waiting drops a posted write as it joins (R144). -/
theorem mgmtJoin_posted {pkt : Packet} {s : State} (ready : s.agent.state = .ready) (empty : s.mgmtQueue = [])
    (posted : isPosted pkt = true) : mgmtJoin pkt s = droppedMgmt 1 [] s := by
  have run : mgmtJoin pkt s = agentRun [pkt] { s with mgmtQueue := [pkt] } := by
    simp only [mgmtJoin, agentLook, ready, empty, List.nil_append]
  rw [run, agentRun, if_pos posted]
  exact dropMgmtPosted_cons rfl

/-- The credit that the drop returns is the one under which the request came (R142, R144, R165). -/
theorem droppedMgmt_mgmtSpent {s : State} (link : s.linkI.state = .up) (credit : 0 < s.creditsI.givenMgmt)
    (empty : s.mgmtQueue = []) :
    droppedMgmt 1 [] (mgmtSpent s) =
      { s.bump .mgmtPostedDrops with
        creditsI := { s.creditsI with returnMgmt := s.creditsI.returnMgmt + 1 } } := by
  have credits : creditsAfterAnswers (mgmtSpent s) 1 =
      { s.creditsI with returnMgmt := s.creditsI.returnMgmt + 1 } := by
    have returned : s.creditsI.givenMgmt - 1 + 1 = s.creditsI.givenMgmt := Nat.sub_add_cancel credit
    simp [creditsAfterAnswers, mgmtSpent, link, returned]
  rw [droppedMgmt, freedMgmt, credits, ← empty]
  rfl

/-- Settles O47: the request joins under its credit; behind an answered one it waits, and the credit of a posted write
that is dropped comes back at once. -/
theorem managementRequestWaitsOrIsDropped : Obligations.Management_request_waits_or_is_dropped := by
  intro pkt s link credit request
  have arrives := arrive_mgmtSpent link credit request
  refine ⟨fun c hc answering => ?_, fun c hc ready empty posted => ?_⟩
  · have row : exec c s = .next (arrive .i pkt true s) := by rcases hc with rfl | rfl | rfl <;> rfl
    rw [row, arrives]
    exact congrArg Host.Outcome.next (mgmtJoin_answering (s := mgmtSpent s) answering)
  · have row : exec c s = .next (arrive .i pkt true s) := by rcases hc with rfl | rfl <;> rfl
    rw [row, arrives, mgmtJoin_posted (s := mgmtSpent s) ready empty posted, droppedMgmt_mgmtSpent link credit empty]

/-! ### A READ or WRITE that is judged as it arrives (R143, R145) -/

theorem reach_opened (pkt : Packet) (s : State) (h : Header) : reach (opened pkt s) h = reach s h := by
  have manager : isManager (opened pkt s) h.tag = isManager s h.tag := rfl
  have base : (opened pkt s).pins = s.pins := rfl
  simp only [reach, manager, base]

/-- Nothing that a request's judging reads or changes is touched by its arrival. -/
theorem judgeRequest_opened (pkt : Packet) (s : State) :
    judgeRequest pkt (opened pkt s) = openedWith pkt (judgeRequest pkt s) := by
  unfold judgeRequest
  rw [reach_opened]
  cases reach s pkt.header with
  | refused status => rfl
  | denied => exact pair_openedWith _ (denyAccess_opened _ rfl)
  | word w =>
    refine ite_openedWith ?_ (writeWord_opened _ w _)
    rw [readBeat_opened]
    exact pair_openedWith _ (afterRead_opened pkt s w)

/-- A request that a READY agent with nothing waiting takes as it arrives, by what its judging leaves and answers
(R143). -/
theorem arrive_judged {pkt : Packet} {s e : State} {answer : Answer} (link : s.linkI.state = .up)
    (credit : 0 < s.creditsI.givenMgmt) (ready : s.agent.state = .ready) (empty : s.mgmtQueue = [])
    (request : pkt.isRequestOf classMgmt = true) (posted : isPosted pkt = false)
    (judged : judgeRequest pkt s = (e, answer)) : arrive .i pkt true s = answered e pkt answer := by
  have taken : arrive .i pkt true s = takeRequest pkt (opened pkt s) :=
    (arrive_mgmtSpent link credit request).trans (mgmtJoin_ready (s := mgmtSpent s) ready empty posted)
  rw [taken, takeRequest, judgeRequest_opened, judged]
  rfl

theorem isPosted_of_isRead {pkt : Packet} (h : isRead pkt = true) : isPosted pkt = false := by
  rw [isRead, beq_iff_eq] at h
  rw [isPosted, h]
  rfl

/-- A READ of any word but pop leaves everything as it stands (R149). -/
theorem afterRead_of_ne_pop {w : WindowWord} (s : State) (h : w ≠ .pop) : afterRead s w = s := by
  cases w with
  | pop => exact absurd rfl h
  | _ => rfl

/-- Settles O48: the READ reaches its word, and each word is read off its fields. -/
theorem managementReadReturnsTheWord : Obligations.Management_read_returns_the_word := by
  refine ⟨fun pkt s w ho request read beats address notPop => ?_, fun s => ?_⟩
  · obtain ⟨link, credit, ready, empty, manager⟩ := ho
    have reached := reach_word manager rfl beats address
    have judged : judgeRequest pkt s = (s, { status := 0, detail := 0, beat := readBeat s w }) := by
      rw [judgeRequest, reached]
      dsimp only
      rw [if_pos read, afterRead_of_ne_pop s notPop]
      rfl
    exact congrArg Host.Outcome.next
      (arrive_judged link credit ready empty request (isPosted_of_isRead read) judged)
  · exact
      ⟨rfl, wordBeat_place _ (by decide), wordBeat_place _ (by decide), wordBeat_place _ (by decide),
        wordBeat_bindingWord _, fun t => wordBeat_bindingWord _, fun e => wordBeat_place_flag _ _ (by decide),
        fun c => wordBeat_place _ (by decide), rfl, fun _ _ => rfl, fun _ _ => rfl, fun _ => rfl, rfl⟩

/-! ### The checks of a request (R145, R146) -/

section Checks

variable {s : State} {h : Header}

/-- The address lies in the window (R145, check 2). -/
def InWindow (s : State) (h : Header) : Prop :=
  windowBase s.pins.wbase ≤ h.address.toNat ∧ h.address.toNat < windowBase s.pins.wbase + 0x10000

theorem outside_iff (s : State) (h : Header) :
    (h.address.toNat < windowBase s.pins.wbase ∨ windowBase s.pins.wbase + windowBytes ≤ h.address.toNat) ↔
      ¬InWindow s h := by
  simp only [InWindow, windowBytes]
  omega

theorem reach_beats (beats : h.beats ≠ 1) : reach s h = .refused statusMgmtMalformed := if_pos beats

theorem reach_outside (beats : h.beats = 1) (outside : ¬InWindow s h) : reach s h = .refused statusMgmtRange := by
  rw [reach, if_neg (not_not.mpr beats), if_pos ((outside_iff s h).mpr outside)]

theorem reach_unaligned (beats : h.beats = 1) (inside : InWindow s h) (unaligned : ¬8 ∣ h.address.toNat) :
    reach s h = .refused statusMgmtMalformed := by
  rw [reach, if_neg (not_not.mpr beats), if_neg (fun o => (outside_iff s h).mp o inside),
    if_pos (fun z => unaligned (Nat.dvd_of_mod_eq_zero z))]

/-- Check 5 of R145: the word found at the offset, or none assigned. -/
def reachAssigned : Option WindowWord → Reach
  | some w => .word w
  | none => .refused statusMgmtRange

theorem reach_stranger (beats : h.beats = 1) (inside : InWindow s h) (aligned : 8 ∣ h.address.toNat)
    (stranger : isManager s h.tag = false) : reach s h = .denied := by
  rw [reach, if_neg (not_not.mpr beats), if_neg (fun o => (outside_iff s h).mp o inside),
    if_neg (not_not.mpr (Nat.mod_eq_zero_of_dvd aligned)), if_pos (by rw [stranger]; rfl)]

theorem reach_manager {found : Option WindowWord} (beats : h.beats = 1) (inside : InWindow s h)
    (aligned : 8 ∣ h.address.toNat) (manager : isManager s h.tag = true)
    (lookup : wordAt (h.address.toNat - windowBase s.pins.wbase) = found) : reach s h = reachAssigned found := by
  rw [reach, if_neg (not_not.mpr beats), if_neg (fun o => (outside_iff s h).mp o inside),
    if_neg (not_not.mpr (Nat.mod_eq_zero_of_dvd aligned)), if_neg (by rw [manager]; decide), lookup]
  cases found <;> rfl

end Checks

/-- The words that no WRITE changes (R145, check 6). -/
theorem writeWord_readonly {w : WindowWord} (tag : Tag) (v : MgmtWord) (s : State)
    (h : w = .identity ∨ w = .pop ∨ w = .peek ∨ (∃ p k, w = .dynamic p k) ∨ (∃ n, w = .outstanding n)) :
    writeWord tag w v s = (s, statusAnswer statusMgmtReadonly) := by
  rcases h with rfl | rfl | rfl | ⟨p, k, rfl⟩ | ⟨n, rfl⟩ <;> rfl

/-- Settles O49: each check in its turn, by what the request reaches. -/
theorem managementRequestIsRefused : Obligations.Management_request_is_refused := by
  intro pkt s c hc link credit ready empty request posted base address status inWindow
  have row : exec c s = .next (arrive .i pkt true s) := by rcases hc with rfl | rfl <;> rfl
  have outcome {e : State} {st : BitVec 5} (judged : judgeRequest pkt s = (e, statusAnswer st)) :
      exec c s = status e st :=
    row.trans (congrArg Host.Outcome.next (arrive_judged link credit ready empty request posted judged))
  have refused {st : BitVec 5} (reached : reach s pkt.header = .refused st) : exec c s = status s st :=
    outcome (by rw [judgeRequest, reached])
  refine ⟨fun beats => refused (reach_beats beats), fun beats outside => refused (reach_outside beats outside),
    fun beats inside unaligned => refused (reach_unaligned beats inside unaligned),
    fun beats inside aligned stranger => ?_, fun beats inside aligned manager unassigned => ?_,
    fun beats inside aligned manager write w assigned readonly => ?_⟩
  · have reached := reach_stranger beats inside aligned stranger
    exact outcome (by rw [judgeRequest, reached]; rfl)
  · exact refused (reach_manager beats inside aligned manager unassigned)
  · have reached : reach s pkt.header = .word w := reach_manager beats inside aligned manager assigned
    refine outcome ?_
    rw [judgeRequest, reached]
    dsimp only
    rw [if_neg (by rw [write]; decide), writeWord_readonly _ _ s readonly]
    rfl

/-! ### The manager list, RESP_TIMEOUT and the counters (R147, R151, R153) -/

/-- The row of a manager list write that is taken as it arrives, by what the write leaves and its status. -/
theorem exec_managerListWrite {s e : State} {src : Sender} {i : Fin 4} {v : MgmtWord} {status : BitVec 5}
    (ho : MgmtOpen s src) (h : writeManager src.tag i v s = (e, status)) :
    exec (.managerListWrite src i v) s = .next (writeDone s e src (.manager i) v status) :=
  congrArg Host.Outcome.next (writeArrives_done ho (congrArg withStatus h))

/-- Settles O59: only entry 0's tag writes the list, and it cannot make entry 0 invalid; the other two words take what
is written. -/
theorem managersTimeoutAndCountersAreWritten : Obligations.Managers_timeout_and_counters_are_written := by
  intro src v s ho written
  refine ⟨fun i other => ?_, fun primary invalid => ?_, fun i primary kept => ?_, fun c => ?_, ?_⟩
  · exact exec_managerListWrite ho (if_pos other)
  · refine exec_managerListWrite ho ((if_neg (not_not.mpr primary)).trans (if_pos ⟨rfl, ?_⟩))
    rw [managerOfWord, invalid]
    rfl
  · refine exec_managerListWrite ho ((if_neg (not_not.mpr primary)).trans (if_neg fun ⟨first, invalid⟩ => ?_))
    rw [managerOfWord, kept.resolve_left (not_not.mpr first)] at invalid
    cases invalid
  · exact congrArg Host.Outcome.next (writeArrives_eq ho (.counter c) v)
  · exact congrArg Host.Outcome.next (writeArrives_eq ho .respTimeout v)

end Sys2Proof.Machine
end

section
/-!
PROOFS. The INITs that the ports send (chapter 10): after a fault and at each resend (R161, R168), and at power-on (R159,
R160).
-/

namespace Sys2Proof.Machine

/-! ### INIT (R160) -/

/-- The INIT of Link port I, which enters INIT_WAIT or is there already, with what it grants. -/
theorem enterInitWait_i (s : State) :
    enterInitWait .i s =
      { s with
        creditsI :=
          { s.creditsI with
            givenTraffic := s.freeSlots, givenMgmt := 4 - s.mgmtQueue.length, returnTraffic := 0, returnMgmt := 0 },
        linkI :=
          { state := .initWait, resend := some (s.clock.deviceTime + 1000),
            lane :=
              s.linkI.lane ++
                [(initPacket (BitVec.ofNat 9 s.freeSlots) (BitVec.ofNat 3 (4 - s.mgmtQueue.length)) 0 0).wire] } } :=
  rfl

/-- The INIT of Link port T, with the free target share it grants (R117). -/
theorem enterInitWait_t (s : State) :
    enterInitWait .t s =
      { s with
        creditsT := { s.creditsT with givenResp := 24 - s.targetCount, returnResp := 0 },
        linkT :=
          { state := .initWait, resend := some (s.clock.deviceTime + 1000),
            lane := s.linkT.lane ++ [(initPacket 0 0 (BitVec.ofNat 8 (24 - s.targetCount)) 0).wire] } } := rfl

theorem setLinkState_self {p : PortId} {x : LinkState} {s : State} (link : (s.link p).state = x) :
    s.setLinkState p x = s := by
  cases p <;> (simp only [State.setLinkState, ← link]; rfl)

/-- A resend is the INIT of a port that is in INIT_WAIT already (R161). -/
theorem sendInit_eq_enterInitWait {p : PortId} {s : State} (link : (s.link p).state = .initWait) :
    sendInit p s = enterInitWait p s := by
  rw [enterInitWait, setLinkState_self link]

theorem resendReached_iff (s : State) (l : Link) :
    resendReached s l = true ↔ l.state = .initWait ∧ ∃ d, l.resend = some d ∧ d ≤ s.clock.deviceTime := by
  cases hr : l.resend <;> simp [resendReached, hr]

/-- INIT_RESEND at the expiry. -/
theorem exec_initResend {p : PortId} {s : State} {d : DeviceTime} (link : (s.link p).state = .initWait)
    (timer : (s.link p).resend = some d) (reached : d ≤ s.clock.deviceTime) :
    exec (.initResend p) s = .next (enterInitWait p s) := by
  rw [← sendInit_eq_enterInitWait link]
  exact congrArg Host.Outcome.next (if_pos ((resendReached_iff s _).mpr ⟨link, d, timer, reached⟩))

/-- FAULT_RESET_SENT in FAULT: the RESET leaves the lane before the INIT is handed to it (R168). -/
theorem exec_faultResetSent {p : PortId} {s : State} (link : (s.link p).state = .fault) :
    exec (.faultResetSent p) s =
      .next (enterInitWait p (s.setLink p { s.link p with lane := withoutReset (s.link p).lane })) :=
  congrArg Host.Outcome.next (if_pos link)

/-- Settles O37: each of the two is an INIT of its port, whose grants do not read the lane or the port's state. -/
theorem initIsSentAfterAFaultAndAgain : Obligations.Init_is_sent_after_a_fault_and_again := by
  intro s
  refine ⟨fun link => exec_faultResetSent (p := .i) link, fun link => exec_faultResetSent (p := .t) link,
    fun d link timer reached => ?_, fun d link timer reached => ?_, fun p => ⟨fun link => ?_, fun early => ?_⟩⟩
  · rw [exec_initResend (p := .i) link timer reached, enterInitWait_i, ← link]
    rfl
  · rw [exec_initResend (p := .t) link timer reached, enterInitWait_t, ← link]
  · exact congrArg Host.Outcome.next (if_neg link)
  · refine congrArg Host.Outcome.next (if_neg fun due => ?_)
    obtain ⟨link, d, timer, reached⟩ := (resendReached_iff s _).mp due
    exact early.elim (· link) fun later => absurd reached (not_le.mpr (later d timer))

/-! ### Power-on (R159, R160) -/

theorem powerOn_freeSlots (r : Bool) (w : BitVec 4) (g : Tag) : (powerOn r w g).freeSlots = 256 := by
  have occupied : (powerOn r w g).occupiedSlots = 0 := by
    rw [State.occupiedSlots, powerOn_queuedSlots]
    rfl
  rw [State.freeSlots, occupied]
  rfl

/-- Every block is at its power-on value, whatever the straps. -/
theorem powerOn_blocks (r : Bool) (w : BitVec 4) (g : Tag) : PowerOnBlocks (powerOn r w g) where
  clock := ⟨rfl, rfl, rfl, rfl, rfl⟩
  pacers p := powerOn_pacer r w g p
  queues p := powerOn_queue r w g p
  calendar := rfl
  tagMap t := powerOn_binding r w g t
  defaultPacer := rfl
  outstanding n := powerOn_entry r w g n
  responses := rfl
  replies := rfl
  notices := rfl
  mgmtQueue := rfl
  agent := ⟨rfl, rfl, rfl, rfl⟩
  managers := ⟨rfl, fun
    | 0, other => absurd rfl other
    | 1, _ => rfl
    | 2, _ => rfl
    | 3, _ => rfl⟩
  counters c := powerOn_counter r w g c
  lastCommand := rfl
  sweeper := rfl

/-- The ports after their INITs: all 256 slots, the 4 management entries and the target share of 24 are granted. -/
theorem enterInitWait_powerOn (r : Bool) (w : BitVec 4) (g : Tag) :
    enterInitWait .t (enterInitWait .i (powerOn r w g)) =
      { powerOn r w g with
        creditsI :=
          { givenTraffic := 256, givenMgmt := 4, returnTraffic := 0, returnMgmt := 0, heldResp := 0, grantResp := 0 },
        linkI := { state := .initWait, resend := some 1000, lane := [(initPacket 256 4 0 0).wire] },
        creditsT := { givenResp := 24, returnResp := 0, heldReq := 0, grantReq := 0 },
        linkT := { state := .initWait, resend := some 1000, lane := [(initPacket 0 0 24 0).wire] } } := by
  rw [enterInitWait_t, enterInitWait_i, powerOn_freeSlots]
  rfl

/-- Settles O25: the INITs touch the ports alone. -/
theorem powerOnResetStartsThePart : Obligations.Power_on_reset_starts_the_part := by
  intro wbase pmtag s
  have blocks := powerOn_blocks true wbase pmtag
  simp only [exec, execPowerOnReset, enterInitWait_powerOn]
  exact ⟨_, rfl, { blocks with }, rfl, rfl, rfl, rfl, rfl, rfl, rfl⟩

end Sys2Proof.Machine
end

section
/-!
PROOFS. The returns in CREDIT packets (R162, R165), and what becomes of the INIT, CREDIT and RESET packets and the faults
that arrive (R162 to R169).
-/

namespace Sys2Proof.Machine

/-! ### Returns in CREDIT packets (R162, R165) -/

/-- The RETURN count of a class, the port that sends its CREDIT packets, and its CREDIT_CLASS code (R159, R165). -/
def returnsOf (which : CreditReturn) (s : State) : Nat :=
  match which with
  | .traffic => s.creditsI.returnTraffic
  | .mgmt => s.creditsI.returnMgmt
  | .response => s.creditsT.returnResp

/-- The port that returns the credits of a class. -/
def returnPort : CreditReturn → PortId
  | .traffic => .i
  | .mgmt => .i
  | .response => .t

/-- The CREDIT_CLASS code of a class of returns (section 12.1). -/
def returnClass : CreditReturn → BitVec 2
  | .traffic => creditTraffic
  | .mgmt => creditMgmt
  | .response => creditResponse

/-- The state with `n` returns of a class left to send, and these packets handed to its port. -/
def withReturns (which : CreditReturn) (n : Nat) (sent : List WirePacket) (s : State) : State :=
  match which with
  | .traffic =>
    { s with
      creditsI := { s.creditsI with returnTraffic := n }, linkI := { s.linkI with lane := s.linkI.lane ++ sent } }
  | .mgmt =>
    { s with
      creditsI := { s.creditsI with returnMgmt := n }, linkI := { s.linkI with lane := s.linkI.lane ++ sent } }
  | .response =>
    { s with
      creditsT := { s.creditsT with returnResp := n }, linkT := { s.linkT with lane := s.linkT.lane ++ sent } }

section Returns

variable (which : CreditReturn) (n m : Nat) (sent more : List WirePacket) (s : State)

@[simp] theorem returnsOf_withReturns : returnsOf which (withReturns which n sent s) = n := by cases which <;> rfl

@[simp] theorem withReturns_linkState :
    ((withReturns which n sent s).link (returnPort which)).state = (s.link (returnPort which)).state := by
  cases which <;> rfl

theorem withReturns_withReturns :
    withReturns which m more (withReturns which n sent s) = withReturns which m (sent ++ more) s := by
  cases which <;> simp [withReturns]

theorem withReturns_self : withReturns which (returnsOf which s) [] s = s := by
  cases which <;> simp [withReturns, returnsOf]

/-- The CREDIT packet that carries this count of a class. -/
def creditWire : WirePacket := (creditPacket (returnClass which) (BitVec.ofNat 8 n)).wire

/-- CREDIT_SEND under its two conditions: one packet with the count, or 255 (R165). -/
theorem creditSendOnce_sends {s : State} (up : (s.link (returnPort which)).state = .up)
    (returns : 0 < returnsOf which s) :
    creditSendOnce which s =
      withReturns which (returnsOf which s - min (returnsOf which s) 255)
        [creditWire which (min (returnsOf which s) 255)] s := by
  cases which <;> exact if_pos ⟨up, returns⟩

theorem creditSendOnce_waits {s : State} (h : (s.link (returnPort which)).state ≠ .up ∨ returnsOf which s = 0) :
    creditSendOnce which s = s := by
  have waits : ¬((s.link (returnPort which)).state = .up ∧ 0 < returnsOf which s) := fun ⟨up, returns⟩ =>
    h.elim (· up) (Nat.ne_of_gt returns)
  cases which <;> exact if_neg waits

end Returns

/-- Settles O38: class by class, what one CREDIT packet does, and where none is sent. -/
theorem creditPacketCarriesTheReturns : Obligations.Credit_packet_carries_the_returns := by
  have sends {which : CreditReturn} {s : State} (up : (s.link (returnPort which)).state = .up)
      (returns : 0 < returnsOf which s) :
      exec (.creditSend which) s = .next (withReturns which (returnsOf which s - min (returnsOf which s) 255)
        [creditWire which (min (returnsOf which s) 255)] s) :=
    congrArg Host.Outcome.next (creditSendOnce_sends which up returns)
  have waits {which : CreditReturn} {s : State}
      (h : (s.link (returnPort which)).state ≠ .up ∨ returnsOf which s = 0) :
      exec (.creditSend which) s = .next s := congrArg Host.Outcome.next (creditSendOnce_waits which h)
  exact fun s => ⟨sends (which := .traffic), sends (which := .mgmt), sends (which := .response),
    waits (which := .traffic), waits (which := .mgmt), waits (which := .response)⟩

/-- A train of CREDIT packets is its first packet and the train of what is left. -/
theorem creditTrain_of_pos (cls : BitVec 2) {n : Nat} (h : 0 < n) :
    creditTrain cls n =
      (creditPacket cls (BitVec.ofNat 8 (min n 255))).wire :: creditTrain cls (n - min n 255) := by
  rcases Nat.lt_or_ge n 255 with small | full
  · have zero : n / 255 = 0 := Nat.div_eq_of_lt small
    have rest : n % 255 = n := Nat.mod_eq_of_lt small
    rw [Nat.min_eq_left small.le, Nat.sub_self, creditTrain, zero, rest, if_neg (Nat.ne_of_gt h)]
    rfl
  · obtain ⟨m, rfl⟩ := Nat.exists_eq_add_of_le' full
    rw [Nat.min_eq_right full, Nat.add_sub_cancel, creditTrain, Nat.add_div_right _ (by decide), Nat.add_mod_right,
      List.replicate_succ]
    rfl

/-- With packets enough, all returns of a class are sent (R162, R165). -/
theorem creditSendAll_eq (which : CreditReturn) {fuel : Nat} {s : State}
    (up : (s.link (returnPort which)).state = .up) (enough : returnsOf which s ≤ 255 * fuel) :
    creditSendAll which fuel s = withReturns which 0 (creditTrain (returnClass which) (returnsOf which s)) s := by
  have nothing {s : State} (zero : returnsOf which s = 0) :
      withReturns which 0 (creditTrain (returnClass which) (returnsOf which s)) s = s := by
    have self := withReturns_self which s
    rw [zero] at self ⊢
    exact self
  induction fuel generalizing s with
  | zero => exact (nothing (Nat.le_zero.mp enough)).symm
  | succ fuel ih =>
    rw [creditSendAll]
    rcases Nat.eq_zero_or_pos (returnsOf which s) with zero | pending
    · rw [creditSendOnce_waits which (.inr zero)]
      exact ih up (zero ▸ Nat.zero_le _)
    · rw [creditSendOnce_sends which up pending, ih (by rwa [withReturns_linkState]) (by rw [returnsOf_withReturns]; omega),
        returnsOf_withReturns, withReturns_withReturns, creditTrain_of_pos _ pending]
      rfl

theorem le_creditPackets (n : Nat) : n ≤ 255 * creditPackets n := by
  simp only [creditPackets, Config.creditPacketMax]
  omega

/-- Link port I's returns at UP, the traffic class first (notes/assumptions/15.md). -/
theorem sendReturns_i {s : State} (up : s.linkI.state = .up) :
    sendReturns .i s =
      { s with
        creditsI := { s.creditsI with returnTraffic := 0, returnMgmt := 0 },
        linkI :=
          { s.linkI with
            lane :=
              s.linkI.lane ++ creditTrain creditTraffic s.creditsI.returnTraffic ++
                creditTrain creditMgmt s.creditsI.returnMgmt } } := by
  have traffic : creditSendAll .traffic (creditPackets s.creditsI.returnTraffic) s =
      withReturns .traffic 0 (creditTrain creditTraffic s.creditsI.returnTraffic) s :=
    creditSendAll_eq .traffic up (le_creditPackets _)
  rw [sendReturns, traffic]
  exact creditSendAll_eq .mgmt up (le_creditPackets _)

theorem sendReturns_t {s : State} (up : s.linkT.state = .up) :
    sendReturns .t s =
      { s with
        creditsT := { s.creditsT with returnResp := 0 },
        linkT := { s.linkT with lane := s.linkT.lane ++ creditTrain creditResponse s.creditsT.returnResp } } :=
  creditSendAll_eq .response up (le_creditPackets _)

/-- The ALERT that was pending, if one was, is the last packet of Link port I's bring-up (R136, R162, step 5). -/
theorem sendPendingAlert_i (s : State) :
    sendPendingAlert .i s =
      { s with
        notices := { s.notices with alertPending := false },
        linkI :=
          { s.linkI with
            lane :=
              s.linkI.lane ++
                (if s.notices.alertPending then [(alertPacket (s.manager 0).tag s.notices.records.length).wire]
                  else []) } } := by
  unfold sendPendingAlert
  cases pending : s.notices.alertPending with
  | true => rfl
  | false =>
    have cleared : { s.notices with alertPending := false } = s.notices := by rw [← pending]
    simp [cleared]

theorem bringUp_i (h : Header) (s : State) :
    bringUp .i h s =
      { s with
        creditsI :=
          { s.creditsI with
            heldResp := h.respGrant.toNat, grantResp := h.respGrant.toNat, returnTraffic := 0, returnMgmt := 0 },
        notices := { s.notices with alertPending := false },
        linkI :=
          { state := .up, resend := none,
            lane :=
              s.linkI.lane ++ creditTrain creditTraffic s.creditsI.returnTraffic ++
                creditTrain creditMgmt s.creditsI.returnMgmt ++
                (if s.notices.alertPending then [(alertPacket (s.manager 0).tag s.notices.records.length).wire]
                  else []) } } := by
  rw [bringUp, sendReturns_i rfl, sendPendingAlert_i]
  rfl

theorem bringUp_t (h : Header) (s : State) :
    bringUp .t h s =
      { s with
        creditsT := { s.creditsT with heldReq := h.reqGrant.toNat, grantReq := h.reqGrant.toNat, returnResp := 0 },
        linkT :=
          { state := .up, resend := none,
            lane := s.linkT.lane ++ creditTrain creditResponse s.creditsT.returnResp } } := by
  rw [bringUp, sendReturns_t rfl]
  rfl

/-! ### Link packets (section 12.1) -/

@[simp] theorem initPacket_respGrant (tg : BitVec 9) (mg : BitVec 3) (rg qg : BitVec 8) :
    (initPacket tg mg rg qg).header.respGrant = rg := by
  rw [Header.respGrant, initPacket, BitVec.extractLsb'_append_eq_of_le (by decide),
    BitVec.extractLsb'_append_eq_of_le (by decide)]
  exact BitVec.extractLsb'_append_eq_right

@[simp] theorem initPacket_reqGrant (tg : BitVec 9) (mg : BitVec 3) (rg qg : BitVec 8) :
    (initPacket tg mg rg qg).header.reqGrant = qg := by
  rw [Header.reqGrant, initPacket, BitVec.extractLsb'_append_eq_of_le (by decide),
    BitVec.extractLsb'_append_eq_of_le (by decide), BitVec.extractLsb'_append_eq_of_le (by decide)]
  exact BitVec.extractLsb'_append_eq_right

@[simp] theorem creditPacket_creditClass (cls : BitVec 2) (count : BitVec 8) :
    (creditPacket cls count).header.creditClass = cls := BitVec.extractLsb'_append_eq_right

@[simp] theorem creditPacket_creditCount (cls : BitVec 2) (count : BitVec 8) :
    (creditPacket cls count).header.creditCount = count := by
  rw [Header.creditCount, creditPacket, BitVec.extractLsb'_append_eq_of_le (by decide)]
  exact BitVec.extractLsb'_append_eq_right

/-- The fields of a header hold all its bits. -/
theorem Header.toBits_ofBits (b : BitVec 128) : (Header.ofBits b).toBits = b := by
  simp only [Header.toBits, Header.ofBits]
  repeat rw [BitVec.extractLsb'_append_extractLsb'_eq_extractLsb' (by decide)]
  exact BitVec.extractLsb'_eq_self

/-! ### Arrivals of link packets (R162, R164, R169) -/

/-- The partner's INIT, with a grant, in INIT_WAIT (R162). -/
theorem arrive_init {p : PortId} {s : State} {tg : BitVec 9} {mg : BitVec 3} {rg qg : BitVec 8}
    (link : (s.link p).state = .initWait) (grant : partnerGrant p (initPacket tg mg rg qg).header ≠ 0) :
    arrive p (initPacket tg mg rg qg) true s = bringUp p (initPacket tg mg rg qg).header s := by
  have sound : soundKind (initPacket tg mg rg qg) true = some .init := rfl
  simp [arrive, link, sound, faultyInInitWait, grant, handleInInitWait]

/-- Settles O31: the arrival is the bring-up of its port. -/
theorem initBringsThePortUp : Obligations.Init_brings_the_port_up := by
  intro tg mg rg qg s
  refine ⟨fun link grant => congrArg Host.Outcome.next ?_, fun link grant => congrArg Host.Outcome.next ?_⟩
  · have granted : partnerGrant .i (initPacket tg mg rg qg).header ≠ 0 := by
      simpa [partnerGrant, BitVec.toNat_eq] using grant
    rw [arrive_init (p := .i) link granted, bringUp_i, initPacket_respGrant]
  · have granted : partnerGrant .t (initPacket tg mg rg qg).header ≠ 0 := by
      simpa [partnerGrant, BitVec.toNat_eq] using grant
    rw [arrive_init (p := .t) link granted, bringUp_t, initPacket_reqGrant]

theorem creditFaulty_iff (p : PortId) (h : Header) (s : State) : creditFaulty p h s = true ↔ FaultyCredit s p h := by
  simp [creditFaulty, FaultyCredit]

/-- A CREDIT that is no fault in UP is taken (R164). -/
theorem arrive_credit {p : PortId} {s : State} {cls : BitVec 2} {count : BitVec 8} (link : (s.link p).state = .up)
    (sound : ¬FaultyCredit s p (creditPacket cls count).header) :
    arrive p (creditPacket cls count) true s = takeCredit p count.toNat s := by
  have kind : soundKind (creditPacket cls count) true = some .credit := rfl
  have taken : creditFaulty p (creditPacket cls count).header s = false :=
    Bool.eq_false_iff.mpr (mt (creditFaulty_iff p _ s).mp sound)
  simp [arrive, link, kind, faultyInUp, taken, handleInUp]

/-- A RESET is taken in every state of its port but DOWN, where taking it does nothing (R169). -/
theorem arrive_reset (p : PortId) (s : State) : arrive p resetPacket true s = takeReset p s := by
  have kind : soundKind resetPacket true = some .reset := rfl
  cases link : (s.link p).state <;>
    simp [arrive, takeReset, link, kind, faultyInUp, faultyInInitWait, handleInUp, handleInInitWait]

/-! ### Faults (R166, R167) -/

/-- A packet is of a sound kind just when its check word agreed, its framing is right and that is its kind (R167). -/
theorem soundKind_eq_some {pkt : Packet} {ok : Bool} {k : PacketKind} :
    soundKind pkt ok = some k ↔ (ok = true ∧ pkt.framed = true) ∧ pkt.kind? = some k := by
  simp [soundKind, and_comm]

theorem faultyInInitWait_of {p : PortId} {pkt : Packet} {check : CheckWord} {k : PacketKind} (sound : Sound pkt check)
    (kind : pkt.kind? = some k) (h : FaultyInInitWait p pkt check) : faultyInInitWait p k pkt.header = true := by
  rcases h with unsound | ⟨notInit, notReset⟩ | ⟨init, grant⟩
  · exact absurd sound unsound
  · cases k with
    | init => exact absurd kind notInit
    | reset => exact absurd kind notReset
    | _ => rfl
  · obtain rfl : k = .init := Option.some.inj (kind.symm.trans init)
    exact decide_eq_true grant

theorem requestFaulty_of {s : State} {p : PortId} {h : Header} (faulty : FaultyRequest s p h) :
    requestFaulty p h s = true := by
  cases p with
  | t => rfl
  | i =>
    have other : classMgmt ≠ classTraffic := by decide
    rcases faulty with target | ⟨notTraffic, notMgmt⟩ | ⟨cls, credit⟩ | ⟨cls, credit⟩
    · cases target
    · simp [requestFaulty, notTraffic, notMgmt]
    · simp [requestFaulty, cls, credit]
    · simp [requestFaulty, cls, credit, other]

theorem responseFaulty_of {s : State} {p : PortId} (faulty : p = .i ∨ s.creditsT.givenResp = 0) :
    responseFaulty p s = true := by
  cases p with
  | i => rfl
  | t => exact decide_eq_true (faulty.resolve_left (by decide))

theorem faultyInUp_of {s : State} {p : PortId} {pkt : Packet} {check : CheckWord} {k : PacketKind}
    (sound : Sound pkt check) (kind : pkt.kind? = some k) (h : FaultyInUp s p pkt check) :
    faultyInUp p k pkt.header s = true := by
  have only {j : PacketKind} (h : pkt.kind? = some j) : k = j := Option.some.inj (kind.symm.trans h)
  rcases h with unsound | init | alert | ⟨request, faulty⟩ | ⟨response, faulty⟩ | ⟨credit, faulty⟩
  · exact absurd sound unsound
  · rw [only init]; rfl
  · rw [only alert]; rfl
  · rcases request with h | h | h <;> (rw [only h]; exact requestFaulty_of faulty)
  · rcases response with h | h <;> (rw [only h]; exact responseFaulty_of faulty)
  · rw [only credit]
    exact (creditFaulty_iff p pkt.header s).mpr faulty

/-- A packet that is a fault of its port starts the fault sequence (R166, R168). -/
theorem arrive_faulty {p : PortId} {pkt : Packet} {check : CheckWord} {ok : Bool} {s : State}
    (agrees : ok = true ↔ check = pkt.checkWord) (h : Faulty s p pkt check) :
    arrive p pkt ok s = faultSequence p s := by
  have sound {k : PacketKind} (hk : soundKind pkt ok = some k) : Sound pkt check ∧ pkt.kind? = some k := by
    obtain ⟨⟨agreed, framed⟩, kind⟩ := soundKind_eq_some.mp hk
    exact ⟨⟨agrees.mp agreed, framed⟩, kind⟩
  rcases h with ⟨link, faulty⟩ | ⟨link, faulty⟩
  all_goals
    simp only [arrive, link]
    cases hk : soundKind pkt ok with
    | none => rfl
    | some k => ?_
  · exact if_pos (faultyInInitWait_of (sound hk).1 (sound hk).2 faulty)
  · exact if_pos (faultyInUp_of (sound hk).1 (sound hk).2 faulty)

/-- In DOWN nothing is taken, and in FAULT nothing but a sound RESET (R159, R168, R169). -/
theorem arrive_discarded {p : PortId} {pkt : Packet} {check : CheckWord} {ok : Bool} {s : State}
    (agrees : ok = true ↔ check = pkt.checkWord)
    (h : (s.link p).state = .down ∨ ((s.link p).state = .fault ∧ ¬(Sound pkt check ∧ pkt.kind? = some .reset))) :
    arrive p pkt ok s = s := by
  rcases h with down | ⟨fault, other⟩
  · simp only [arrive, down]
  · simp only [arrive, fault]
    refine if_neg fun reset => other ?_
    obtain ⟨⟨agreed, framed⟩, kind⟩ := soundKind_eq_some.mp reset
    exact ⟨⟨agrees.mp agreed, framed⟩, kind⟩

/-- The comparison of the FAULT row's packet is with the code of its header and data (section 12.1). -/
theorem checkAgrees_iff (header : BitVec 128) (data : List Beat) (check : CheckWord) :
    checkAgrees header data check = true ↔ check = Packet.checkWord { header := Header.ofBits header, data := data } := by
  rw [checkAgrees, decide_eq_true_iff, Packet.checkWord, Header.toBits_ofBits]

end Sys2Proof.Machine
end

section
/-!
PROOFS. What a link reset leaves (R106, R107, R170): the drains it completes, and the blocks of each port's reset.
-/

namespace Sys2Proof.Machine

/-! ### The drains that one link reset completes (R15, R88) -/

/-- A pacer whose drain has completed (R15). -/
def sweptPacer (c : Pacer) : Pacer := { c with state := .sweeping, retireMode := none }

theorem insertByRank_perm (rank : PacerId → Nat) (p : PacerId) (l : List PacerId) :
    (insertByRank rank p l).Perm (p :: l) := by
  induction l with
  | nil => exact .refl _
  | cons q rest ih =>
    unfold insertByRank
    split
    · exact .refl _
    · exact (ih.cons q).trans (.swap p q rest)

theorem sortByRank_perm (rank : PacerId → Nat) (l : List PacerId) : (sortByRank rank l).Perm l := by
  induction l with
  | nil => exact .refl _
  | cons p rest ih => exact (insertByRank_perm rank p _).trans (ih.cons p)

/-- The checks change only the Sweeper and the pacer table. -/
theorem drainCheckAll_frame (l : List PacerId) (s : State) :
    { drainCheckAll l s with sweeper := s.sweeper, pacers := s.pacers } = s := by
  induction l generalizing s with
  | nil => rfl
  | cons p rest ih =>
    have h := congrArg (fun x : State => { x with sweeper := s.sweeper, pacers := s.pacers }) (ih (drainCheck p s))
    exact h.trans (drainCheck_frame p s)

theorem drainCheckAll_pacer (l : List PacerId) (q : PacerId) (s : State) :
    (drainCheckAll l s).pacer q =
      if q ∈ l ∧ drained (s.pacer q) = true then sweptPacer (s.pacer q) else s.pacer q := by
  induction l generalizing s with
  | nil => simp [drainCheckAll]
  | cons p rest ih =>
    rw [drainCheckAll, ih, drainCheck_pacer]
    rcases eq_or_ne q p with rfl | other
    · cases hd : drained (s.pacer q) with
      | true => simp only [and_self, if_true, List.mem_cons_self]; exact if_neg (fun h => nomatch h.2)
      | false => simp [hd]
    · simp [other]

/-- Pacers that have all drained join the sweep queue one after another. -/
theorem sweepList_drainCheckAll {l : List PacerId} {s : State} (once : l.Nodup)
    (waiting : ∀ p ∈ l, drained (s.pacer p) = true) : sweepList (drainCheckAll l s) = sweepList s ++ l := by
  induction l generalizing s with
  | nil => simp [drainCheckAll]
  | cons p rest ih =>
    obtain ⟨first, rest_once⟩ := List.nodup_cons.mp once
    have still (q : PacerId) (hq : q ∈ rest) : drained ((drainCheck p s).pacer q) = true := by
      have other : q ≠ p := fun e => first (e ▸ hq)
      rw [drainCheck_pacer, if_neg (fun ⟨same, _⟩ => other same)]
      exact waiting q (List.mem_cons_of_mem p hq)
    rw [drainCheckAll, ih rest_once still, sweepList_drainCheck, if_pos (waiting p List.mem_cons_self),
      List.append_assoc, List.singleton_append]

/-- A sweep in hand goes on (R88). -/
theorem startSweep_cursor {s : State} (busy : s.sweeper.cursor ≠ .idle) :
    (startSweep s).sweeper.cursor = s.sweeper.cursor := by
  unfold startSweep
  cases hc : s.sweeper.cursor with
  | idle => exact absurd hc busy
  | _ => exact hc

theorem drainCheck_cursor (p : PacerId) {s : State} (busy : s.sweeper.cursor ≠ .idle) :
    (drainCheck p s).sweeper.cursor = s.sweeper.cursor := by
  unfold drainCheck
  split
  · exact startSweep_cursor busy
  · rfl

theorem drainCheckAll_cursor (l : List PacerId) {s : State} (busy : s.sweeper.cursor ≠ .idle) :
    (drainCheckAll l s).sweeper.cursor = s.sweeper.cursor := by
  induction l generalizing s with
  | nil => rfl
  | cons p rest ih =>
    have first := drainCheck_cursor p busy
    exact (ih (by rwa [first])).trans first

/-- Only the Sweeper, the pacer table and the draws change. -/
theorem completeDrains_eq (s : State) :
    completeDrains s =
      { s with
        sweeper := (completeDrains s).sweeper, pacers := (completeDrains s).pacers, draws := (completeDrains s).draws } :=
  congrArg
    (fun x : State =>
      { x with
        sweeper := (completeDrains s).sweeper, pacers := (completeDrains s).pacers, draws := (completeDrains s).draws })
    (drainCheckAll_frame _ { s with draws := s.draws + 1 })

theorem completeDrains_pacer (q : PacerId) (s : State) :
    (completeDrains s).pacer q = if drained (s.pacer q) = true then sweptPacer (s.pacer q) else s.pacer q := by
  rw [completeDrains, drainCheckAll_pacer]
  refine if_congr ?_ rfl rfl
  simp [mem_sortByRank, State.pacer]

/-- The pacers that wait join the sweep queue once each, in the order of this draw (notes/assumptions/8.md). -/
theorem completeDrains_joined (s : State) :
    DrainsJoined s (completeDrains s) (fun p => drained (s.pacer p) = true) := by
  have mem (p : PacerId) (rank : PacerId → Nat) :
      p ∈ sortByRank rank ((List.finRange 128).filter fun p => drained (s.pacer p)) ↔ drained (s.pacer p) = true := by
    simp [mem_sortByRank]
  have once (rank : PacerId → Nat) :
      (sortByRank rank ((List.finRange 128).filter fun p => drained (s.pacer p))).Nodup :=
    (sortByRank_perm rank _).nodup_iff.mpr ((List.nodup_finRange 128).filter _)
  exact
    { joined :=
        ⟨_, sweepList_drainCheckAll (s := { s with draws := s.draws + 1 }) (once _) fun p hp => (mem p _).mp hp, once _,
          fun p => mem p _⟩
      cursor := fun busy => drainCheckAll_cursor _ (s := { s with draws := s.draws + 1 }) busy }

theorem DrainsJoined.congr {s s' t t' : State} {D D' : PacerId → Prop} (h : DrainsJoined s t D)
    (before : s'.sweeper = s.sweeper) (after : t'.sweeper = t.sweeper) (completed : ∀ p, D' p ↔ D p) :
    DrainsJoined s' t' D' := by
  obtain ⟨⟨l, list, once, mem⟩, cursor⟩ := h
  refine ⟨⟨l, ?_, once, fun p => (mem p).trans (completed p).symm⟩, ?_⟩
  · rw [sweepList_congr before, sweepList_congr after, list]
  · rw [before, after]
    exact cursor

/-! ### The notice of a link reset (R131, R136, R138) -/

theorem alertDue_overflow (s : State) : s.alertDue.notices.overflow = s.notices.overflow := by
  unfold State.alertDue
  dsimp only
  split <;> rfl

theorem enterNotice_overflow (b : NoticeBody) (s : State) :
    (s.enterNotice b).notices.overflow = s.notices.overflow := by
  unfold State.enterNotice
  dsimp only
  split
  · exact alertDue_overflow _
  · rfl

theorem alertDue_notUp_eq {s : State} (notUp : s.linkI.state ≠ .up) :
    s.alertDue = { s with notices := s.alertDue.notices } := by
  rw [State.alertDue_notUp s notUp]

/-- While Link port I is not UP, an ALERT that becomes due is made pending, and a notice changes the Notice Queue alone. -/
theorem plainNotice_notUp {s : State} (b : NoticeBody) (notUp : s.linkI.state ≠ .up) :
    s.plainNotice b = { s with notices := (s.plainNotice b).notices } := by
  have entered : s.enterNotice b = { s with notices := (s.enterNotice b).notices } := by
    unfold State.enterNotice
    dsimp only
    split
    · exact alertDue_notUp_eq (s := { s with notices := _ }) notUp
    · rfl
  unfold State.plainNotice
  split
  · split
    · exact entered
    · rfl
  · rfl

/-- With ALERT_ENABLE clear, and where no record stands after it, a notice leaves the alert flags. -/
theorem plainNotice_flags {b : NoticeBody} {s : State}
    (quiet : s.alertEnable = false ∨ (s.plainNotice b).notices.records = []) :
    (s.plainNotice b).notices.alertArmed = s.notices.alertArmed ∧
      (s.plainNotice b).notices.alertPending = s.notices.alertPending := by
  cases enabled : s.noticeEnable b.kind with
  | false => rw [plainNotice_disabled enabled]; exact ⟨rfl, rfl⟩
  | true =>
    rcases Nat.lt_or_ge s.notices.records.length 32 with room | full
    · rw [plainNotice_entered enabled room] at quiet ⊢
      have off : s.alertEnable = false := quiet.resolve_right (by simp [State.enterNotice_records])
      rw [enterNotice_quiet (.inr (.inl off))]
      exact ⟨rfl, rfl⟩
    · rw [plainNotice_lost enabled full]
      exact ⟨rfl, rfl⟩

theorem resetAlert_eq (s : State) : resetAlert s = { s with notices := (resetAlert s).notices } := by
  unfold resetAlert
  split <;> rfl

theorem resetAlert_records (s : State) :
    (resetAlert s).notices.records = s.notices.records ∧ (resetAlert s).notices.overflow = s.notices.overflow := by
  unfold resetAlert
  split <;> exact ⟨rfl, rfl⟩

theorem resetAlert_waits {s : State} (enable : s.alertEnable = true) (waiting : s.notices.records ≠ []) :
    (resetAlert s).notices.alertArmed = false ∧ (resetAlert s).notices.alertPending = true := by
  have due : (s.alertEnable && !s.notices.records.isEmpty) = true := by simp [enable, waiting]
  rw [resetAlert, if_pos due]
  exact ⟨rfl, rfl⟩

theorem resetAlert_quiet {s : State} (h : s.alertEnable = false ∨ s.notices.records = []) : resetAlert s = s :=
  if_neg (by rcases h with h | h <;> simp [h])

/-- The Notice Queue after an I-port link reset: its notice, then R138, with nothing in between that reads or changes
the queue or ALERT_ENABLE. -/
theorem noticesAfterResetI {s x : State} (enable : x.alertEnable = s.alertEnable)
    (notices : x.notices = (s.plainNotice (.linkReset .i)).notices) : NoticesAfterResetI s (resetAlert x) := by
  obtain ⟨records, overflow⟩ := resetAlert_records x
  rw [notices] at records overflow
  refine ⟨fun off => ?_, fun enabled room => ?_, fun enabled full => ?_, fun on waiting => ?_, fun quiet => ?_⟩
  · rw [records, overflow, plainNotice_disabled off]
    exact ⟨rfl, rfl⟩
  · rw [records, overflow, plainNotice_entered enabled room, State.enterNotice_records, enterNotice_overflow]
    exact ⟨rfl, rfl⟩
  · rw [records, overflow, plainNotice_lost enabled full]
    exact ⟨rfl, rfl⟩
  · exact resetAlert_waits (enable.trans on) (by rwa [notices, ← records])
  · rw [records] at quiet
    rw [resetAlert_quiet (by rwa [enable, notices]), notices]
    exact plainNotice_flags quiet

/-! ### Link port I (R72, R107, R122, R138, R157) -/

/-- No credits held or granted on Link port I (R170). -/
def noCreditsI : CreditsI :=
  { givenTraffic := 0, givenMgmt := 0, returnTraffic := 0, returnMgmt := 0, heldResp := 0, grantResp := 0 }

/-- Every block before the drains complete, the Notice Queue apart. -/
theorem clearedI_eq {s : State} (notUp : s.linkI.state ≠ .up) :
    clearedI s =
      { s with
        creditsI := noCreditsI, linkI := { s.linkI with lane := keptOnLane s.linkI.lane },
        creditsT := creditsAfterReturns s s.targetCount, queues := Vector.replicate 128 [],
        pacers := s.pacers.map (fun c => { c with qlen := 0 }), calendar := [],
        outstanding := s.outstanding.map (entryAfterResetI s), responses := [], replies := [],
        notices := (clearedI s).notices, mgmtQueue := [],
        agent := { agentCounting s .linkResetsI with state := .ready } } := by
  have port : resetPortI s =
      { s with
        creditsI := noCreditsI, linkI := { s.linkI with lane := keptOnLane s.linkI.lane },
        agent := agentCounting s .linkResetsI, notices := (resetPortI s).notices } := plainNotice_notUp _ notUp
  unfold clearedI
  rw [port]
  simp only [dropResponses, State.returnResponses_eq]
  rfl

theorem clearedI_notices (s : State) : (clearedI s).notices = (resetPortI s).notices := by
  simp only [clearedI, dropResponses, State.returnResponses_eq]
  rfl

theorem clearedI_pacer {s : State} (notUp : s.linkI.state ≠ .up) (p : PacerId) :
    (clearedI s).pacer p = { s.pacer p with qlen := 0 } :=
  (congrArg (fun x : State => x.pacer p) (clearedI_eq notUp)).trans (tableGet_map _ _ p)

/-- Every block after an I-port link reset; the drains and R138 say what becomes of the pacers, the Sweeper and the
Notice Queue. -/
theorem linkResetI_blocks {s : State} (notUp : s.linkI.state ≠ .up) :
    linkResetI s =
      { s with
        creditsI := noCreditsI, linkI := { s.linkI with lane := keptOnLane s.linkI.lane },
        creditsT := creditsAfterReturns s s.targetCount, queues := Vector.replicate 128 [],
        pacers := (completeDrains (clearedI s)).pacers, calendar := [],
        outstanding := s.outstanding.map (entryAfterResetI s), responses := [], replies := [],
        notices := (linkResetI s).notices, mgmtQueue := [],
        agent := { agentCounting s .linkResetsI with state := .ready },
        sweeper := (completeDrains (clearedI s)).sweeper, draws := (completeDrains (clearedI s)).draws } := by
  have alert : linkResetI s = { completeDrains (clearedI s) with notices := (linkResetI s).notices } :=
    resetAlert_eq _
  have drains := congrArg (fun x : State => { x with notices := (linkResetI s).notices })
    (completeDrains_eq (clearedI s))
  have cleared := congrArg
    (fun x : State =>
      { x with
        notices := (linkResetI s).notices, pacers := (completeDrains (clearedI s)).pacers,
        sweeper := (completeDrains (clearedI s)).sweeper, draws := (completeDrains (clearedI s)).draws })
    (clearedI_eq notUp)
  exact alert.trans (drains.trans cleared)

/-- R107, entry by entry. -/
theorem entryAfterResetI_orphaned (s : State) (e : Entry) : EntryOrphaned s e (entryAfterResetI s e) where
  busy h := by rw [entryAfterResetI, h]
  closing h := by rw [entryAfterResetI, h]; rfl
  others h := by rcases h with h | h <;> rw [entryAfterResetI, h]

theorem drained_without_queue (c : Pacer) :
    drained { c with qlen := 0 } = true ↔ c.state = .draining ∧ c.flight = 0 := by
  simp [drained_iff]

theorem linkResetI_notices {s : State} (notUp : s.linkI.state ≠ .up) : NoticesAfterResetI s (linkResetI s) := by
  have drained : (completeDrains (clearedI s)).notices = (resetPortI s).notices :=
    (congrArg State.notices (completeDrains_eq (clearedI s))).trans (clearedI_notices s)
  have agent : (completeDrains (clearedI s)).agent = { agentCounting s .linkResetsI with state := .ready } :=
    (congrArg State.agent (completeDrains_eq (clearedI s))).trans (congrArg State.agent (clearedI_eq notUp))
  have enable : (completeDrains (clearedI s)).alertEnable = s.alertEnable := by
    rw [State.alertEnable, agent]
    rfl
  have notices := noticesAfterResetI (x := completeDrains (clearedI s))
    (s := { s with
      creditsI := noCreditsI, linkI := { s.linkI with lane := keptOnLane s.linkI.lane },
      agent := agentCounting s .linkResetsI }) enable drained
  exact { notices with }

/-- R170 on Link port I, block by block. -/
theorem afterResetI_linkResetI {s : State} (notUp : s.linkI.state ≠ .up) : AfterResetI s (linkResetI s) := by
  have blocks := linkResetI_blocks notUp
  have drains := completeDrains_joined (clearedI s)
  exact
    { queues := fun p => (congrArg (fun x : State => x.queue p) blocks).trans (tableGet_replicate _ p)
      pacers := fun p => by
        have swept : (linkResetI s).pacer p = (completeDrains (clearedI s)).pacer p := by rw [blocks]; rfl
        rw [swept, completeDrains_pacer, clearedI_pacer notUp]
        exact if_congr (drained_without_queue _) rfl rfl
      calendar := congrArg State.calendar blocks
      entries := fun n => by
        have reset : (linkResetI s).entry n = entryAfterResetI s (s.entry n) :=
          (congrArg (fun x : State => x.entry n) blocks).trans (tableGet_map _ _ n)
        rw [reset]
        exact entryAfterResetI_orphaned s _
      responses := ⟨congrArg State.responses blocks, congrArg State.replies blocks, congrArg State.creditsT blocks⟩
      agent := ⟨congrArg State.mgmtQueue blocks, congrArg State.agent blocks⟩
      notices := linkResetI_notices notUp
      drains := drains.congr (by rw [clearedI_eq notUp]) (by rw [blocks])
        fun p => by rw [clearedI_pacer notUp, drained_without_queue]
      kept := by rw [blocks]; exact ⟨rfl, rfl, rfl, rfl, rfl, rfl⟩ }

/-! ### Link port T (R106, R124) -/

/-- No credits held or granted on Link port T (R170). -/
def noCreditsT : CreditsT := { givenResp := 0, returnResp := 0, heldReq := 0, grantReq := 0 }

/-- The state with Link port T and its credit counts replaced. -/
def withPortT (l : Link) (c : CreditsT) (s : State) : State := { s with linkT := l, creditsT := c }

/-! A notice neither reads nor writes Link port T. -/

section Commutes

variable {l : Link} {c : CreditsT} {s t : State}

theorem ite_withPortT {q : Prop} [Decidable q] {a b a' b' : State} (ha : a' = withPortT l c a)
    (hb : b' = withPortT l c b) : (if q then a' else b') = withPortT l c (if q then a else b) := by
  rw [ha, hb, apply_ite (withPortT l c)]

theorem enterNotice_withPortT (b : NoticeBody) (h : t = withPortT l c s) :
    t.enterNotice b = withPortT l c (s.enterNotice b) := by
  subst h
  unfold State.enterNotice State.alertDue
  exact ite_withPortT (ite_withPortT rfl rfl) rfl

theorem plainNotice_withPortT (b : NoticeBody) (h : t = withPortT l c s) :
    t.plainNotice b = withPortT l c (s.plainNotice b) := by
  subst h
  unfold State.plainNotice
  exact ite_withPortT (ite_withPortT (enterNotice_withPortT b rfl) rfl) rfl

end Commutes

theorem plainNotice_eq (b : NoticeBody) (s : State) :
    s.plainNotice b = { s with notices := (s.plainNotice b).notices, linkI := (s.plainNotice b).linkI } :=
  congrArg (fun x : State => { x with notices := (s.plainNotice b).notices, linkI := (s.plainNotice b).linkI })
    (s.plainNotice_frame b).rest

/-- The state once a T-port link reset has been counted and its notice handed over (R170, steps 3 and 4). -/
def noticedT (s : State) : State := (s.bump .linkResetsT).plainNotice (.linkReset .t)

/-- Every block before the drains complete. -/
theorem clearedT_eq (s : State) :
    clearedT s =
      { s with
        creditsT := noCreditsT, linkT := { s.linkT with lane := keptOnLane s.linkT.lane }, linkI := (noticedT s).linkI,
        notices := (noticedT s).notices, agent := agentCounting s .linkResetsT,
        replies := s.replies ++ (lostEntries s).map (ReplyItem.givenUp .linkLost),
        outstanding := s.outstanding.map entryAfterResetT,
        pacers := s.pacers.map (fun c => { c with flight := 0 }), calendar := (clearedT s).calendar } := by
  have notice : noticedT s =
      { s with
        notices := (noticedT s).notices, linkI := (noticedT s).linkI, agent := agentCounting s .linkResetsT } :=
    plainNotice_eq _ _
  have port : resetPortT s =
      withPortT { s.linkT with lane := keptOnLane s.linkT.lane } noCreditsT (noticedT s) :=
    plainNotice_withPortT (s := s.bump .linkResetsT) _ rfl
  rw [notice] at port
  unfold clearedT
  rw [port]
  rfl

theorem clearedT_pacer (s : State) (p : PacerId) : (clearedT s).pacer p = { s.pacer p with flight := 0 } :=
  (congrArg (fun x : State => x.pacer p) (clearedT_eq s)).trans (tableGet_map _ _ p)

theorem clearedT_calendar (s : State) :
    (clearedT s).calendar =
      (List.finRange 128).filter (fun p => s.calendar.contains p || onTerms { s.pacer p with flight := 0 }) := by
  have port : (resetPortT s).calendar = s.calendar := by
    rw [resetPortT, plainNotice_eq]
    rfl
  have rejoined : (clearedT s).calendar =
      (List.finRange 128).filter
        (fun p => (resetPortT s).calendar.contains p || onTerms ((clearedT s).pacer p)) := rfl
  simp only [rejoined, port, clearedT_pacer]

/-- Every block after a T-port link reset; the drains say what becomes of the pacers and the Sweeper. -/
theorem linkResetT_blocks (s : State) :
    linkResetT s =
      { s with
        creditsT := noCreditsT, linkT := { s.linkT with lane := keptOnLane s.linkT.lane }, linkI := (noticedT s).linkI,
        notices := (noticedT s).notices, agent := agentCounting s .linkResetsT,
        replies := s.replies ++ (lostEntries s).map (ReplyItem.givenUp .linkLost),
        outstanding := s.outstanding.map entryAfterResetT, pacers := (completeDrains (clearedT s)).pacers,
        calendar := (clearedT s).calendar, sweeper := (completeDrains (clearedT s)).sweeper,
        draws := (completeDrains (clearedT s)).draws } := by
  have cleared := congrArg
    (fun x : State =>
      { x with
        pacers := (completeDrains (clearedT s)).pacers, sweeper := (completeDrains (clearedT s)).sweeper,
        draws := (completeDrains (clearedT s)).draws })
    (clearedT_eq s)
  exact (completeDrains_eq (clearedT s)).trans cleared

/-- R106, entry by entry. -/
theorem entryAfterResetT_lost (e : Entry) : EntryLost e (entryAfterResetT e) where
  busy h := by rw [entryAfterResetT, h]; rfl
  quarantine h := by rw [entryAfterResetT, h]; rfl
  closing h := by rw [entryAfterResetT, h]
  free h := by rw [entryAfterResetT, h]

theorem mem_lostEntries (s : State) (n : EntryId) :
    n ∈ lostEntries s ↔ (s.entry n).state = .busy ∧ (s.entry n).orphan = false := by
  simp [lostEntries]

theorem drained_without_flight (c : Pacer) :
    drained { c with flight := 0 } = true ↔ c.state = .draining ∧ c.qlen = 0 := by
  simp [drained_iff]

/-- R170 on Link port T, block by block. -/
theorem afterResetT_linkResetT (s : State) : AfterResetT s (linkResetT s) := by
  have blocks := linkResetT_blocks s
  have drains := completeDrains_joined (clearedT s)
  have calendar : (linkResetT s).calendar = _ := (congrArg State.calendar blocks).trans (clearedT_calendar s)
  exact
    { queues := by rw [blocks]
      pacers := fun p => by
        have swept : (linkResetT s).pacer p = (completeDrains (clearedT s)).pacer p := by rw [blocks]; rfl
        rw [swept, completeDrains_pacer, clearedT_pacer]
        exact if_congr (drained_without_flight _) rfl rfl
      calendar := fun p => by simp [calendar]
      sorted := calendar ▸ (List.pairwise_lt_finRange 128).filter _
      entries := fun n => by
        have reset : (linkResetT s).entry n = entryAfterResetT (s.entry n) :=
          (congrArg (fun x : State => x.entry n) blocks).trans (tableGet_map _ _ n)
        rw [reset]
        exact entryAfterResetT_lost _
      replies := ⟨lostEntries s, congrArg State.replies blocks, (List.pairwise_lt_finRange 128).filter _, mem_lostEntries s⟩
      responses := by rw [blocks]
      notices := by rw [blocks]; exact ⟨rfl, rfl⟩
      agent := by rw [blocks]; exact ⟨rfl, rfl⟩
      drains := drains.congr (by rw [clearedT_eq]) (by rw [blocks])
        fun p => by rw [clearedT_pacer, drained_without_flight]
      kept := by rw [blocks]; exact ⟨rfl, rfl, rfl, rfl, rfl, rfl⟩ }

end Sys2Proof.Machine
end

section
/-!
PROOFS. Link resets as the ports perform them: on a sound RESET (R169), and in the fault sequence (R164, R166 to R168).
-/

namespace Sys2Proof.Machine

/-! ### The port that is reset, before and after

What a link reset leaves of the other blocks is read off a state whose own port may have changed on the way: its state and
lane at the start, its counts and lane when its INIT goes out. -/

theorem AfterResetI.ofPort {s t : State} {l : Link} (h : AfterResetI { s with linkI := l } t) (l' : Link)
    (c : CreditsI) : AfterResetI s { t with linkI := l', creditsI := c } where
  queues := h.queues
  pacers := h.pacers
  calendar := h.calendar
  entries n := { h.entries n with }
  responses := h.responses
  agent := h.agent
  notices := { h.notices with }
  drains := { h.drains with }
  kept := h.kept

theorem AfterResetT.ofPort {s t : State} {l : Link} (h : AfterResetT { s with linkT := l } t) (l' : Link)
    (c : CreditsT) : AfterResetT s { t with linkT := l', creditsT := c } where
  queues := h.queues
  pacers := h.pacers
  calendar := h.calendar
  sorted := h.sorted
  entries := h.entries
  replies := h.replies
  responses := h.responses
  notices := by
    have same : (({ s with linkT := l } : State).bump .linkResetsT).plainNotice (.linkReset .t) =
        withPortT l s.creditsT (noticedT s) := plainNotice_withPortT _ rfl
    have notices := h.notices
    rw [same] at notices
    exact notices
  agent := h.agent
  drains := { h.drains with }
  kept := h.kept

/-- An I-port link reset leaves every hold slot FREE (R72, R122). -/
theorem AfterResetI.freeSlots {s t : State} (h : AfterResetI s t) : t.freeSlots = 256 := by
  have queues : t.queues = Vector.replicate 128 [] :=
    table_ext fun p => (h.queues p).trans (tableGet_replicate _ p).symm
  have queued : t.queuedSlots = 0 := by simp [State.queuedSlots, queues, Vector.toList_replicate]
  have refused : t.refusalPending = 0 := by simp [State.refusalPending, h.responses]
  rw [State.freeSlots, State.occupiedSlots, queued, refused]
  rfl

/-- The INIT after an I-port link reset grants all 256 slots and the 4 management entries. -/
theorem enterInitWait_linkResetI {s : State} (notUp : s.linkI.state ≠ .up) :
    enterInitWait .i (linkResetI s) =
      { linkResetI s with
        creditsI := { noCreditsI with givenTraffic := 256, givenMgmt := 4 },
        linkI :=
          { state := .initWait, resend := some (s.clock.deviceTime + 1000),
            lane := keptOnLane s.linkI.lane ++ [(initPacket 256 4 0 0).wire] } } := by
  have slots := (afterResetI_linkResetI notUp).freeSlots
  rw [enterInitWait_i, slots, linkResetI_blocks notUp]
  rfl

/-- The INIT after a T-port link reset grants the target share less the responses that stay (R124). -/
theorem enterInitWait_linkResetT (s : State) :
    enterInitWait .t (linkResetT s) =
      { linkResetT s with
        creditsT := { noCreditsT with givenResp := 24 - s.targetCount },
        linkT :=
          { state := .initWait, resend := some (s.clock.deviceTime + 1000),
            lane :=
              keptOnLane s.linkT.lane ++ [(initPacket 0 0 (BitVec.ofNat 8 (24 - s.targetCount)) 0).wire] } } := by
  have kept : (linkResetT s).targetCount = s.targetCount := by rw [linkResetT_blocks]; rfl
  rw [enterInitWait_t, kept, linkResetT_blocks]
  rfl

/-! ### A sound RESET (R169) -/

theorem exec_resetArrival (p : PortId) (s : State) : exec (.resetArrival p) s = .next (takeReset p s) :=
  congrArg Host.Outcome.next (arrive_reset p s)

/-- In UP and INIT_WAIT a RESET is a link reset in INIT_WAIT and an INIT (R169). -/
theorem takeReset_restarts {p : PortId} {s : State} (h : (s.link p).state = .up ∨ (s.link p).state = .initWait) :
    takeReset p s = enterInitWait p (linkReset p (s.setLinkState p .initWait)) := by
  rcases h with link | link
  · rw [takeReset, link]
  · rw [takeReset, link, setLinkState_self link]

theorem takeReset_fault {p : PortId} {s : State} (link : (s.link p).state = .fault) :
    takeReset p s = linkReset p s := by
  rw [takeReset, link]

theorem takeReset_down {p : PortId} {s : State} (link : (s.link p).state = .down) : takeReset p s = s := by
  rw [takeReset, link]

/-- Settles O33: a link reset whose port is not UP, and the INIT that follows it out of FAULT. -/
theorem resetArrivesOnPortI : Obligations.Reset_arrives_on_port_I := by
  intro s
  simp only [exec_resetArrival]
  refine ⟨fun link => ⟨_, rfl, ?_⟩, fun link => ⟨_, rfl, ?_⟩, fun link => ?_⟩
  · have waits : (s.setLinkState .i .initWait).linkI.state ≠ .up := nofun
    rw [takeReset_restarts (p := .i) link, linkReset, enterInitWait_linkResetI waits]
    exact ⟨(afterResetI_linkResetI waits).ofPort _ _, rfl, rfl⟩
  · have notUp : s.linkI.state ≠ .up := by rw [link]; nofun
    rw [takeReset_fault (p := .i) link]
    exact ⟨afterResetI_linkResetI notUp, congrArg State.linkI (linkResetI_blocks notUp),
      congrArg State.creditsI (linkResetI_blocks notUp)⟩
  · rw [takeReset_down (p := .i) link]

/-- Settles O34: a link reset, and the INIT that follows it out of FAULT. -/
theorem resetArrivesOnPortT : Obligations.Reset_arrives_on_port_T := by
  intro s
  simp only [exec_resetArrival]
  refine ⟨fun link => ⟨_, rfl, ?_⟩, fun link => ⟨_, rfl, ?_⟩, fun link => ?_⟩
  · rw [takeReset_restarts (p := .t) link, linkReset, enterInitWait_linkResetT]
    exact ⟨(afterResetT_linkResetT (s.setLinkState .t .initWait)).ofPort _ _, rfl, rfl⟩
  · rw [takeReset_fault (p := .t) link]
    exact ⟨afterResetT_linkResetT s, congrArg State.linkT (linkResetT_blocks s),
      congrArg State.creditsT (linkResetT_blocks s)⟩
  · rw [takeReset_down (p := .t) link]

/-! ### The fault sequence (R168) -/

/-- The RESET of a fault sequence stays on the lane through its link reset (R170, step 2). -/
theorem keptOnLane_reset (lane : List WirePacket) :
    keptOnLane (lane ++ [resetPacket.wire]) = keptOnLane lane ++ [resetPacket.wire] :=
  List.filter_append lane [resetPacket.wire]

/-- The link of a port in FAULT, its RESET handed to the lane, as its link reset finds it. -/
def faultedLink (l : Link) : Link := { state := .fault, resend := none, lane := l.lane ++ [resetPacket.wire] }

theorem faultSequence_i (s : State) : faultSequence .i s = linkResetI { s with linkI := faultedLink s.linkI } := rfl

theorem faultSequence_t (s : State) : faultSequence .t s = linkResetT { s with linkT := faultedLink s.linkT } := rfl

theorem faultSequence_port_i (s : State) :
    (faultSequence .i s).linkI =
        { state := .fault, resend := none, lane := keptOnLane s.linkI.lane ++ [resetPacket.wire] } ∧
      (faultSequence .i s).creditsI = noCreditsI := by
  rw [faultSequence_i, linkResetI_blocks (by nofun), ← keptOnLane_reset]
  exact ⟨rfl, rfl⟩

theorem faultSequence_port_t (s : State) :
    (faultSequence .t s).linkT =
        { state := .fault, resend := none, lane := keptOnLane s.linkT.lane ++ [resetPacket.wire] } ∧
      (faultSequence .t s).creditsT = noCreditsT := by
  rw [faultSequence_t, linkResetT_blocks, ← keptOnLane_reset]
  exact ⟨rfl, rfl⟩

theorem faultSequence_state (p : PortId) (s : State) : ((faultSequence p s).link p).state = .fault := by
  cases p with
  | i => exact congrArg Link.state (faultSequence_port_i s).1
  | t => exact congrArg Link.state (faultSequence_port_t s).1

/-- Settles O36: the packet's check word is compared with its own code, and a fault is a link reset in FAULT. -/
theorem faultyPacketStartsTheFaultSequence : Obligations.Faulty_packet_starts_the_fault_sequence := by
  intro header data check s
  have agrees := checkAgrees_iff header data check
  refine ⟨fun faulty => ⟨_, congrArg Host.Outcome.next (arrive_faulty agrees faulty), ?_⟩,
    fun faulty => ⟨_, congrArg Host.Outcome.next (arrive_faulty agrees faulty), ?_⟩,
    fun p quiet => congrArg Host.Outcome.next (arrive_discarded agrees quiet)⟩
  · exact ⟨(afterResetI_linkResetI (s := { s with linkI := faultedLink s.linkI }) nofun).ofPort _ _,
      faultSequence_port_i s⟩
  · exact ⟨(afterResetT_linkResetT { s with linkT := faultedLink s.linkT }).ofPort _ _, faultSequence_port_t s⟩

/-- Settles O32: a CREDIT within the grant, or of count 0, is no fault; any other starts the fault sequence. -/
theorem creditIsTakenOrAFault : Obligations.Credit_is_taken_or_a_fault := by
  have within {p : PortId} {s : State} {cls : BitVec 2} {count : BitVec 8} (own : cls = partnerClass p)
      (room : (heldAndGrant s p).1 + count.toNat ≤ (heldAndGrant s p).2) :
      ¬FaultyCredit s p (creditPacket cls count).header := by
    rintro ⟨-, other | past⟩
    · exact other (by rw [creditPacket_creditClass, own])
    · rw [creditPacket_creditCount] at past
      omega
  have taken {p : PortId} {s : State} {cls : BitVec 2} {count : BitVec 8} (link : (s.link p).state = .up)
      (sound : ¬FaultyCredit s p (creditPacket cls count).header) :
      exec (.creditArrival p cls count) s = .next (takeCredit p count.toNat s) :=
    congrArg Host.Outcome.next (arrive_credit link sound)
  intro cls count s
  refine ⟨fun link own room => taken (p := .i) link (within own room),
    fun link own room => taken (p := .t) link (within own room), fun p link zero => ?_, fun p link faulty => ?_⟩
  · subst zero
    have sound : ¬FaultyCredit s p (creditPacket cls 0).header := fun ⟨positive, _⟩ => by
      rw [creditPacket_creditCount] at positive
      exact absurd positive (by decide)
    rw [taken link sound]
    cases p <;> rfl
  · have fault : Faulty s p (creditPacket cls count) (creditPacket cls count).checkWord :=
      .inr ⟨link, .inr (.inr (.inr (.inr (.inr ⟨rfl, faulty⟩))))⟩
    exact ⟨_, congrArg Host.Outcome.next (arrive_faulty (iff_of_true rfl rfl) fault), faultSequence_state p s⟩

end Sys2Proof.Machine
end

section
/-!
PROOFS. Headers and the window's words, field by field: a header and its bits agree (section 12.1, R174), a
configuration word reads back what was written (R17, R175), and the dynamic, outstanding and command words show each
field at its bits (R111, R175, R176).
-/

namespace Sys2Proof.Machine

/-! ### Fields cut out of bits, and bits put together -/

/-- The bits at a place, as a number. -/
theorem extract_toNat {w : Nat} (x : BitVec w) (start len : Nat) :
    (x.extractLsb' start len).toNat = x.toNat / 2 ^ start % 2 ^ len := by
  rw [BitVec.extractLsb'_toNat, Nat.shiftRight_eq_div_pow]

theorem extract_low_toNat {w : Nat} (x : BitVec w) (len : Nat) : (x.extractLsb' 0 len).toNat = x.toNat % 2 ^ len := by
  rw [extract_toNat, Nat.pow_zero, Nat.div_one]

/-- A field of a field stands at the sum of the two places: a grant of an INIT lies in the header's address bits. -/
theorem extract_extract {w a m start len : Nat} (x : BitVec w) (within : start + len ≤ m) :
    (x.extractLsb' a m).extractLsb' start len = x.extractLsb' (a + start) len := by
  ext i hi
  simp [show start + i < m by omega, Nat.add_assoc]

theorem extract_extract_toNat {w a m start len : Nat} (x : BitVec w) (within : start + len ≤ m) :
    ((x.extractLsb' a m).extractLsb' start len).toNat = x.toNat / 2 ^ (a + start) % 2 ^ len := by
  rw [extract_extract x within, extract_toNat]

theorem append_toNat {m n : Nat} (x : BitVec m) (y : BitVec n) : (x ++ y).toNat = x.toNat * 2 ^ n + y.toNat := by
  rw [BitVec.toNat_append, ← Nat.shiftLeft_add_eq_or_of_lt y.isLt, Nat.shiftLeft_eq]

/-! ### A header and its bits (section 12.1) -/

/-- The bits of a header hold all its fields; `Header.toBits_ofBits` is the other way. -/
theorem Header.ofBits_toBits (h : Header) : Header.ofBits h.toBits = h := by
  cases h
  simp (disch := decide) only [Header.ofBits, Header.toBits, BitVec.extractLsb'_append_eq_of_le,
    BitVec.extractLsb'_append_eq_right, BitVec.extractLsb'_eq_self, Nat.reduceSub]

/-- A header's bits as a number: each field at the weight of its lowest bit. -/
theorem Header.toBits_toNat (h : Header) :
    h.toBits.toNat =
      h.kind.toNat + h.cls.toNat * 2 ^ 4 + h.pressure.toNat * 2 ^ 6 + h.beatsM1.toNat * 2 ^ 8 +
        h.status.toNat * 2 ^ 12 + h.tag.toNat * 2 ^ 17 + h.txid.toNat * 2 ^ 27 + h.detail.toNat * 2 ^ 35 +
        h.unusedLow.toNat * 2 ^ 43 + h.address.toNat * 2 ^ 64 + h.unusedHigh.toNat * 2 ^ 112 := by
  simp only [Header.toBits, append_toNat]
  ring

/-- What the bridge composes: the fields a link packet uses at their bits, 0 elsewhere (R174). -/
theorem composed_toBits_toNat (k : PacketKind) (tag : Tag) (detail : BitVec 8) (address : BitVec 48) :
    ({ Header.blank k with tag := tag, detail := detail, address := address } : Header).toBits.toNat =
      k.code.toNat + tag.toNat * 2 ^ 17 + detail.toNat * 2 ^ 35 + address.toNat * 2 ^ 64 := by
  rw [Header.toBits_toNat]
  simp [Header.blank]

theorem initPacket_toBits_toNat (tg : BitVec 9) (mg : BitVec 3) (rg qg : BitVec 8) :
    (initPacket tg mg rg qg).header.toBits.toNat =
      0x8 + tg.toNat * 2 ^ 64 + mg.toNat * 2 ^ 73 + rg.toNat * 2 ^ 76 + qg.toNat * 2 ^ 84 := by
  refine (composed_toBits_toNat .init 0 0 ((0 : BitVec 20) ++ qg ++ rg ++ mg ++ tg)).trans ?_
  simp only [append_toNat, PacketKind.code, BitVec.ofNat_eq_ofNat, BitVec.toNat_ofNat]
  ring

theorem creditPacket_toBits_toNat (cls : BitVec 2) (n : BitVec 8) :
    (creditPacket cls n).header.toBits.toNat = 0x9 + cls.toNat * 2 ^ 64 + n.toNat * 2 ^ 66 := by
  refine (composed_toBits_toNat .credit 0 0 ((0 : BitVec 38) ++ n ++ cls)).trans ?_
  simp only [append_toNat, PacketKind.code, BitVec.ofNat_eq_ofNat, BitVec.toNat_ofNat]
  ring

theorem alertPacket_toBits_toNat (tag : Tag) {n : Nat} (byte : n < 256) :
    (alertPacket tag n).header.toBits.toNat = 0xB + tag.toNat * 2 ^ 17 + n * 2 ^ 35 := by
  refine (composed_toBits_toNat .alert tag (BitVec.ofNat 8 n) 0).trans ?_
  simp [PacketKind.code, Nat.mod_eq_of_lt byte]

/-- Settles O11: the fields cut out of the bits, the composed packets as sums of their fields, and both ways around. -/
theorem headerFieldsAndBitsAgree : Obligations.Header_fields_and_bits_agree := by
  refine ⟨fun b => ?_, initPacket_toBits_toNat, creditPacket_toBits_toNat, composed_toBits_toNat .reset 0 0 0,
    fun tag n byte => alertPacket_toBits_toNat tag byte, Header.ofBits_toBits, Header.toBits_ofBits⟩
  have field (start len : Nat) := extract_toNat b start len
  have linkField {start len : Nat} (within : start + len ≤ 48) := extract_extract_toNat (a := 64) b within
  exact ⟨extract_low_toNat b 4, field 4 2, field 6 2, field 8 4, field 12 5, field 17 10, field 27 8, field 35 8,
    field 64 48, linkField (by decide), linkField (by decide), linkField (by decide), linkField (by decide),
    linkField (by decide), linkField (by decide)⟩

/-! ### Words made of placed fields (section 12.3) -/

/-- A flag placed stands at its bit. -/
@[simp] theorem getElem_place_ofBool (b : Bool) {k : Nat} (h : k < 64) : (place (BitVec.ofBool b) k)[k] = b := by
  rw [← BitVec.getLsbD_eq_getElem, getLsbD_place]
  simp [h]

/-- What is placed shows in no bit beside it. -/
theorem getElem_place_beside {n : Nat} (x : BitVec n) {k i : Nat} (hi : i < 64) (h : i < k ∨ k + n ≤ i) :
    (place x k)[i] = false := by
  rw [← BitVec.getLsbD_eq_getElem, getLsbD_place]
  rcases h with h | h
  · simp [h]
  · simp [BitVec.getLsbD_of_ge x (i - k) (by omega)]

/-- Bits cut out of a word and placed where they stood are the word under a mask. -/
theorem place_extract (v : MgmtWord) (k n : Nat) : place (v.extractLsb' k n) k = v &&& place (BitVec.allOnes n) k := by
  apply BitVec.eq_of_getLsbD_eq
  intro i hi
  rw [BitVec.getLsbD_and, getLsbD_place, getLsbD_place, BitVec.getLsbD_extractLsb', BitVec.getLsbD_allOnes]
  by_cases low : k ≤ i
  · simp [low, hi, Bool.and_comm]
  · simp [low]

/-! ### Configuration words (section 12.3.1, R17, R175) -/

section ConfigWords

variable (c : PacerConfig) (v : MgmtWord)

/-- Each configuration field stands at its bits of its word. -/
theorem configWord_fields :
    (configWord c 0).extractLsb' 0 16 = c.spaceMin ∧ (configWord c 1).extractLsb' 0 16 = c.spaceMax ∧
    (configWord c 2).extractLsb' 0 16 = c.spaceStart ∧ (configWord c 3).extractLsb' 0 4 = c.upShift ∧
    (configWord c 3).extractLsb' 8 4 = c.downShift ∧ (configWord c 3).extractLsb' 16 8 = c.window ∧
    (configWord c 3).extractLsb' 24 8 = c.markLimit ∧ (configWord c 4).extractLsb' 0 16 = c.slowAt ∧
    (configWord c 4).extractLsb' 16 16 = c.slowBand ∧ (configWord c 5).extractLsb' 0 16 = c.idleLimit ∧
    (configWord c 5).extractLsb' 16 16 = c.drainSpace ∧ (configWord c 5).extractLsb' 32 2 = c.priority ∧
    (configWord c 6).extractLsb' 0 8 = c.flightCap ∧ (configWord c 6).extractLsb' 16 9 = c.queueLimit := by
  simp [configWord, BitVec.extractLsb'_or, place_extract_self, place_extract_beside]

/-- A word written reads back under the mask that its fields' places make together. -/
theorem configWord_configWithWord_self :
    configWord (configWithWord c 0 v) 0 = v &&& 0xFFFF ∧ configWord (configWithWord c 1 v) 1 = v &&& 0xFFFF ∧
    configWord (configWithWord c 2 v) 2 = v &&& 0xFFFF ∧ configWord (configWithWord c 3 v) 3 = v &&& 0xFFFF0F0F ∧
    configWord (configWithWord c 4 v) 4 = v &&& 0xFFFFFFFF ∧ configWord (configWithWord c 5 v) 5 = v &&& 0x3FFFFFFFF ∧
    configWord (configWithWord c 6 v) 6 = v &&& 0x1FF00FF := by
  simp only [configWord, configWithWord, place_extract, ← BitVec.and_or_distrib_left]
  exact ⟨rfl, rfl, rfl, rfl, rfl, rfl, rfl⟩

/-- A word written moves no field of another word: no two words show one field. -/
theorem configWord_configWithWord_ne {w u : Fin 7} (other : w ≠ u) :
    configWord (configWithWord c w v) u = configWord c u := by
  fin_cases w <;> fin_cases u
  any_goals rfl
  all_goals exact absurd rfl other

end ConfigWords

/-- Settles O13: the fields placed in a word, and the bits of a written word cut out and placed again. -/
theorem configurationWordsReadBack : Obligations.Configuration_words_read_back := by
  intro c v
  obtain ⟨word0, word1, word2, word3, word4, word5, word6⟩ := configWord_configWithWord_self c v
  exact ⟨configWord_fields c, ⟨rfl, rfl, rfl, rfl, rfl, rfl, rfl, rfl, rfl, rfl, rfl, rfl, rfl, rfl⟩, word0, word1,
    word2, word3, word4, word5, word6, fun w u other => configWord_configWithWord_ne c v other⟩

/-! ### The dynamic words, the outstanding view and the command word (section 12.3.1, R111, R175, R176) -/

/-- The first dynamic word: STATE, RETIRE_MODE, DEMAND, SLOW, CROSS_PENDING and SPACING. -/
theorem dynamicWord_zero (c : Pacer) :
    (dynamicWord c 0).extractLsb' 0 3 = c.state.code ∧ (dynamicWord c 0).extractLsb' 4 2 = retireModeCode c.retireMode ∧
    (dynamicWord c 0).getLsbD 8 = c.demand ∧ (dynamicWord c 0).getLsbD 9 = c.slow ∧
    (dynamicWord c 0).getLsbD 10 = c.crossPending ∧ (dynamicWord c 0).extractLsb' 16 16 = c.spacing ∧
    dynamicWord c 0 &&& 0xFFFFFFFF0000F8C8 = 0 := by
  simp only [dynamicWord, placeFlag]
  refine ⟨?state, ?retireMode, ?demand, ?slow, ?crossPending, ?spacing, ?beside⟩
  case state | retireMode | spacing =>
    simp [BitVec.extractLsb'_or, place_extract_self, place_extract_beside]
  case demand | slow | crossPending => simp [getElem_place_beside]
  case beside => simp (disch := decide) [BitVec.and_or_distrib_right, place_and_of_allOnes]

/-- The fourth dynamic word: FLIGHT, QLEN, WIN_COUNT and WIN_MARKS. -/
theorem dynamicWord_three (c : Pacer) :
    (dynamicWord c 3).extractLsb' 0 8 = BitVec.ofNat 8 c.flight ∧
    (dynamicWord c 3).extractLsb' 16 9 = BitVec.ofNat 9 c.qlen ∧
    (dynamicWord c 3).extractLsb' 32 7 = BitVec.ofNat 7 c.winCount ∧
    (dynamicWord c 3).extractLsb' 40 7 = BitVec.ofNat 7 c.winMarks ∧
    dynamicWord c 3 &&& 0xFFFF8080FE00FF00 = 0 := by
  simp only [dynamicWord, placeCount]
  refine ⟨?flight, ?qlen, ?winCount, ?winMarks, ?beside⟩
  case beside => simp (disch := decide) [BitVec.and_or_distrib_right, place_and_of_allOnes]
  all_goals simp [BitVec.extractLsb'_or, place_extract_self, place_extract_beside]

/-- A word of the outstanding view: STATE, PACER, TAG and UP_TXID. -/
theorem entryWord_fields (e : Entry) :
    (entryWord e).extractLsb' 0 2 = e.state.code ∧ (entryWord e).extractLsb' 8 7 = BitVec.ofNat 7 e.pacer.val ∧
    (entryWord e).extractLsb' 16 10 = e.tag ∧ (entryWord e).extractLsb' 32 8 = e.upTxid ∧
    entryWord e &&& 0xFFFFFF00FC0080FC = 0 := by
  simp only [entryWord, placeCount]
  refine ⟨?state, ?pacer, ?tag, ?upTxid, ?beside⟩
  case beside => simp (disch := decide) [BitVec.and_or_distrib_right, place_and_of_allOnes]
  all_goals simp [BitVec.extractLsb'_or, place_extract_self, place_extract_beside]

/-- The command word: CODE, PACER, OPERAND, OUTCOME and VALID of the last command. -/
theorem lastCommandWord_fields (c : LastCommand) :
    (lastCommandWord c).extractLsb' 0 8 = c.code ∧ (lastCommandWord c).extractLsb' 8 8 = c.pacer ∧
    (lastCommandWord c).extractLsb' 16 16 = c.operand ∧ (lastCommandWord c).extractLsb' 32 8 = c.outcome ∧
    (lastCommandWord c).getLsbD 63 = c.valid ∧ lastCommandWord c &&& 0x7FFFFF0000000000 = 0 := by
  simp only [lastCommandWord, placeFlag]
  refine ⟨?code, ?pacer, ?operand, ?outcome, ?valid, ?beside⟩
  case valid => simp [getElem_place_beside]
  case beside => simp (disch := decide) [BitVec.and_or_distrib_right, place_and_of_allOnes]
  all_goals simp [BitVec.extractLsb'_or, place_extract_self, place_extract_beside]

/-- What is placed at bit 0 is widened, as the three count words are. -/
theorem place_at_zero {n : Nat} (x : BitVec n) : place x 0 = x.setWidth 64 := BitVec.shiftLeft_zero _

/-- Settles O14: the codes, and each word as its fields placed and nothing beside them. -/
theorem wordsShowTheirFields : Obligations.Words_show_their_fields := by
  refine ⟨rfl, rfl, rfl, fun c => ?_, entryWord_fields, lastCommandWord_fields⟩
  obtain ⟨state, retireMode, demand, slow, crossPending, spacing, beside⟩ := dynamicWord_zero c
  obtain ⟨flight, qlen, winCount, winMarks, besideCounts⟩ := dynamicWord_three c
  exact ⟨state, retireMode, demand, slow, crossPending, spacing, beside, rfl, rfl, flight, qlen, winCount, winMarks,
    besideCounts, place_at_zero _, place_at_zero _, place_at_zero _⟩

end Sys2Proof.Machine
end

section
/-!
PROOFS. Every arrival row as its packet off the lane, its check word agreeing (R166; notes/assumptions/6.md,
notes/assumptions/16.md).
-/

namespace Sys2Proof.Machine

/-- The code computed over a header and its data agrees with itself (section 12.1). -/
theorem checkAgrees_checkWord (header : BitVec 128) (data : List Beat) :
    checkAgrees header data (Config.checkWord header data) = true :=
  decide_eq_true rfl

/-- The FAULT row, given a packet as it is sent, has that packet arrive: its bits hold its whole header, and its check word
agrees. -/
theorem exec_fault_sent (p : PortId) (pkt : Packet) (s : State) :
    exec (.fault p pkt.header.toBits pkt.data (Config.checkWord pkt.header.toBits pkt.data)) s =
      .next (arrive p pkt true s) := by
  change execFault p _ _ _ s = _
  rw [execFault, checkAgrees_checkWord, Header.ofBits_toBits]

/-- An arrival row has its packet arrive, sound, at its port; the rows of the bridge's own events, and FAULT, are none. -/
theorem exec_of_arrivalOf {c : Instr} {s : State} {p : PortId} {pkt : Packet} (row : arrivalOf s c = some (p, pkt)) :
    exec c s = .next (arrive p pkt true s) := by
  cases c with
  | fault | powerOnReset | pacingTick | faultResetSent | initResend | creditSend | departure | expiry | quarantineEnd
  | sweepDefaultPacerStep | sweepEntryVisit | replyPlacement | responseSend => cases row
  | _ =>
    obtain ⟨rfl, rfl⟩ := Prod.mk.inj (Option.some.inj row)
    rfl

/-- Settles O35: the row and FAULT are both the arrival of the row's packet. -/
theorem arrivalRowsAreTheirPacketsArriving : Obligations.Arrival_rows_are_their_packets_arriving := by
  intro c s p pkt row
  rw [exec_of_arrivalOf row, exec_fault_sent]

end Sys2Proof.Machine
end
